-- ==== Sys2Proof/Word.lean ====
section
/-! DEFINITION. Word.lean: the widths of spec/00_scope.md R10 and R12, as abbreviations of BitVec. -/

namespace Sys2Proof

/-- A u32: a register value, an operand field, an address (R12). -/
abbrev Word := BitVec 32

/-- A u16: what MuxIO moves (R10). -/
abbrev Half := BitVec 16

/-- A u8: one sample (R10). -/
abbrev Byte := BitVec 8

/-- The command word of spec/30_encoding.md R90. -/
abbrev CommandWord := BitVec 128

/-- The response word of spec/30_encoding.md R100. -/
abbrev ResponseWord := BitVec 48

/-- MAXU32 of spec/00_scope.md R10, as a mathematical integer. -/
abbrev maxU32 : Int := 0xFFFFFFFF

end Sys2Proof
end

