-- ==== Sys2Proof/Config.lean ====
section
/-! DEFINITION. Config.lean: what an implementation fixes (the parameters of spec/00_scope.md R11) and what the
environment decides (its inputs and answers), with the free values for what no list in the state gives. -/

namespace Sys2Proof.Config

/-- MUXFN (R11): an arbitrary function u16 → u16, per instance, held as plain data. `table` lists pairs of an argument
and its value, and `other` is the value for every argument not listed. Every function of 16 bits has such a table. -/
structure MuxFn where
  table : List (Half × Half)
  other : Half
deriving DecidableEq, Repr, Inhabited

/-- PRESCALE_MODE (R11, spec/41_pwm_controller.md R166). -/
inductive PrescaleMode where
  | merge
  | refClear
deriving DecidableEq, Repr, Inhabited

/-- RATE_SLOW (R11). -/
def rateSlow : Nat := 32768

/-- The parameters of R11, one field for each row of its table that names a value. The i32 parameters are 32-bit words
read as two's complement. -/
structure Platform where
  /-- NCH: number of instances in the system. -/
  nch : Nat
  /-- CH_INDEX: identity of this instance. -/
  chIndex : Nat
  /-- REG_BASE. -/
  regBase : Word
  /-- PAGE_SIZE. -/
  pageSize : Nat
  /-- OFF_CTRL. -/
  offCtrl : Nat
  /-- OFF_COUNTER. -/
  offCounter : Nat
  /-- OFF_RELOAD. -/
  offReload : Nat
  /-- OFF_MATCH. -/
  offMatch : Nat
  /-- MUX_OFF. -/
  muxOff : Nat
  /-- MUXFN. -/
  muxFn : MuxFn
  /-- INPUT_FREQ in Hz. -/
  inputFreq : Nat
  /-- RATE_FAST in Hz. -/
  rateFast : Nat
  /-- DEFAULT_FREQ, an i32. -/
  defaultFreq : Word
  /-- BASE_CLOCK, an i32. -/
  baseClock : Word
  /-- PRESCALE_MODE. -/
  prescaleMode : PrescaleMode
  /-- TICK, a duration in a unit the spec does not give. No rule depends on it. -/
  tick : Nat
deriving DecidableEq, Repr

/-- The constraints of R11 that concern one instance. -/
structure Platform.Valid (p : Platform) : Prop where
  nch_pos : 1 ≤ p.nch
  page_power : ∃ k ∈ List.range 33, p.pageSize = 2 ^ k
  page_min : 16 ≤ p.pageSize
  base_aligned : p.regBase.toNat % p.pageSize = 0
  base_fits : p.regBase.toNat + p.pageSize ≤ 2 ^ 32
  ctrl_aligned : p.offCtrl % 4 = 0
  counter_aligned : p.offCounter % 4 = 0
  reload_aligned : p.offReload % 4 = 0
  match_aligned : p.offMatch % 4 = 0
  ctrl_inside : p.offCtrl < p.pageSize
  counter_inside : p.offCounter < p.pageSize
  reload_inside : p.offReload < p.pageSize
  match_inside : p.offMatch < p.pageSize
  offsets_distinct : [p.offCtrl, p.offCounter, p.offReload, p.offMatch].Nodup
  mux_aligned : p.muxOff % 2 = 0
  input_is_a_rate : p.inputFreq = rateSlow ∨ p.inputFreq = p.rateFast
  input_min : 4 ≤ p.inputFreq
  input_max : p.inputFreq ≤ 2 ^ 31 - 1
  fast_min : 4 ≤ p.rateFast
  fast_max : p.rateFast ≤ 2 ^ 31 - 1
  default_pos : 1 ≤ p.defaultFreq.toInt
  tick_pos : 0 < p.tick

/-- A platform with the proof that it meets R11. The field defaults only show Lean that such a platform exists (the
plausible values of spec/93_implementation_defined.md G1 to G3); no rule and no meaning uses them. -/
structure ValidPlatform where
  params : Platform := {
    nch := 1, chIndex := 0, regBase := 0x49040000, pageSize := 4096, offCtrl := 0x24, offCounter := 0x28,
    offReload := 0x2C, offMatch := 0x38, muxOff := 0, muxFn := ⟨[], 0x0002⟩, inputFreq := 32768,
    rateFast := 13000000, defaultFreq := 1024, baseClock := 1024, prescaleMode := .merge, tick := 1 }
  valid : params.Valid := by constructor <;> decide
deriving Inhabited

/-- OPEN VALUE. The parameters of the instance that leaves reset: nothing is known of them but R11's constraints
(`platform.valid`). DESIGN CHOICE, safe, log 1. -/
opaque platform : ValidPlatform

/-- What the register environment answers to one access (spec/20_memory.md R62): failure, or success. `data` is the
value returned when the access is a MuxRead16; a write ignores it. -/
inductive Answer where
  | failed
  | done (data : Half)
deriving DecidableEq, Repr, Inhabited

/-- One input of the block: what the next transition is (spec/43_concurrency_guard.md R240, R243). -/
inductive Input where
  /-- The host presents a command word; `withdrawn` says whether it withdraws it before its grant (R244). -/
  | command (w : CommandWord) (withdrawn : Bool)
  /-- The time base delivers a tick (spec/42_playback_engine.md R213). -/
  | tick
  /-- The sequencer takes the internal transition that is enabled, if one is (R243). -/
  | sequencer
  /-- The host changes one byte of the sample memory (spec/20_memory.md R70). -/
  | hostStore (a : Word) (b : Byte)
  /-- Attach, which is the block's reset (spec/70_reset_and_hazards.md R300). -/
  | attach
deriving DecidableEq, Repr, Inhabited

/-- FREE VALUE. The n-th answer of the register environment where the state lists none (R62). Log 3. -/
opaque freeAnswer : Nat → Answer

/-- FREE VALUE. The n-th input where the state lists none (R243: every order is possible). Log 2. -/
opaque freeInput : Nat → Input

end Sys2Proof.Config
end

