-- ==== Sys2Proof/Machine/State.lean ====
section
/-! DEFINITION. State.lean: everything spec/10_state.md gives the block (`Regs`), and beside it the environment the
block acts on (`State`): its parameters, the sample memory, the inputs and answers still to come, and the event trace. -/

namespace Sys2Proof.Machine

/-- The five error kinds of the source and IllegalCommand: the statuses of R101 other than OK. -/
inductive ErrorKind where
  /-- 0x01 (R260). -/
  | configError
  /-- 0x02 (R261). -/
  | ioError
  /-- 0x03 (R262). -/
  | busyError
  /-- 0x04 (R263). -/
  | stateError
  /-- 0x05 (R264). -/
  | cancelledError
  /-- 0x06 (R265). -/
  | illegalCommand
deriving DecidableEq, Repr

/-- The status of a response (R101). -/
inductive Status where
  | ok
  | error (e : ErrorKind)
deriving DecidableEq, Repr

/-- One response (R100). Its 48-bit word is `Response.word` in Ops.lean. -/
structure Response where
  op : BitVec 8
  status : Status
  value : Word
deriving DecidableEq, Repr

/-- The four external timer registers the block knows (R32). -/
inductive TimerReg where
  | ctrl
  | counter
  | reload
  | matchReg
deriving DecidableEq, Repr

/-- One event of the event trace (spec/20_memory.md R82). -/
inductive Event where
  /-- `W32 <reg> <value>`: a RegWrite32 at its address, and whether it succeeded. -/
  | write32 (addr value : Word) (success : Bool)
  /-- `R16 MUX -> <value>`: a MuxRead16 at its offset, with the value returned, or none where it failed. -/
  | read16 (offset : Nat) (value : Option Half)
  /-- `W16 MUX <value>`: a MuxWrite16 at its offset, and whether it succeeded. -/
  | write16 (offset : Nat) (value : Half) (success : Bool)
  /-- `MR <addr> -> <byte>`: a byte read of the sample memory. -/
  | memRead (addr : Word) (value : Byte)
  /-- `RESP <mnemonic> <status> <value>`. -/
  | response (r : Response)
  /-- `tick`. -/
  | tick
deriving DecidableEq, Repr

/-- The control flags (R20, R24): the block's only flags. -/
structure Flags where
  started : Bool
  polarity : Bool
  autoreload : Bool
  prescaleEnable : Bool
  prescaleRatio : BitVec 3
deriving DecidableEq, Repr

/-- `seq_state` (R36). -/
inductive SeqState where
  | idle
  | check
  | load
  | sleep
deriving DecidableEq, Repr

/-- `ctl_state` (R25), a function of the state (`Regs.ctlState` in Flags.lean). -/
inductive CtlState where
  | unconfigured
  | configuredOff
  | running
  | detached
deriving DecidableEq, Repr

/-- The complete architectural state of one instance (R20, R36). -/
structure Regs where
  /-- `reload_value`: shadow of the reload register. -/
  reloadValue : Word
  /-- `match_value`: shadow of the match register. -/
  matchValue : Word
  /-- The five control flags. -/
  flags : Flags
  /-- `frequency`: last configured effective frequency in Hz, 0 for none yet. -/
  frequency : Word
  /-- `configured`: a reload value has been configured. -/
  configured : Bool
  /-- `detached`: DETACH has completed. -/
  detached : Bool
  /-- `mux_saved`: the original mux value has been saved (R34). -/
  muxSaved : Bool
  /-- `saved_mux`: the saved original mux value (R34). -/
  savedMux : Half
  /-- `active`: a playback session is active (R35). -/
  active : Bool
  /-- `cursor`: bytes played in the current or last session (R35). -/
  cursor : Word
  /-- `seq_state`: which internal transition is next (R36). -/
  seqState : SeqState
  /-- `buf_base`: address of sample 0 of the session (R36). -/
  bufBase : Word
  /-- `buf_len`: number of sample bytes of the session (R36). -/
  bufLen : Word
  /-- `interval`: the session's sample interval in ticks (R36). -/
  interval : Word
  /-- `sleep_cnt`: ticks still to wait in S_SLEEP, the block's only timer (R36, R281). -/
  sleepCnt : Word
  /-- `pb_err`: NONE or the first error met by the session (R36). -/
  pbErr : Option ErrorKind
deriving DecidableEq, Repr

/-- The sample memory (R70): bytes at 32-bit addresses. Reading, writing and its one canonical form are in Ops.lean. -/
structure Memory where
  cells : List Host.Cell
deriving DecidableEq, Repr

/-- One instance together with the environment it acts on. `regs` is the block; the other fields are the model's own
(INVENTORY.md, State). -/
structure State where
  /-- The block (R20). -/
  regs : Regs
  /-- The parameters of R11; no transition changes them (R37). -/
  platform : Config.Platform
  /-- The sample memory, which only the host writes (R70). -/
  mem : Memory
  /-- The inputs still to come, next first (R9, R243). -/
  inputs : List Config.Input
  /-- How many inputs have been taken: indexes the free inputs. -/
  inputNo : Nat
  /-- The register environment's answers still to come, next first (R62). -/
  answers : List Config.Answer
  /-- How many answers have been used: indexes the free answers. -/
  answerNo : Nat
  /-- The event trace, oldest first (R82). -/
  trace : List Event
deriving DecidableEq, Repr

/-- The block right after reset: every variable at the value of R45. -/
def Regs.reset : Regs where
  reloadValue := 0
  matchValue := 0
  flags := ⟨false, false, true, false, 0⟩
  frequency := 0
  configured := false
  detached := false
  muxSaved := false
  savedMux := 0
  active := false
  cursor := 0
  seqState := .idle
  bufBase := 0
  bufLen := 0
  interval := 0
  sleepCnt := 0
  pbErr := none

/-- The machine right after reset: the block at R45's values, nothing issued (R301), nothing listed in the memory, and
no input or answer listed, so that from here everything the environment does is a free value. The platform is the
free constant `Config.platform`. -/
def State.reset : State where
  regs := Regs.reset
  platform := Config.platform.params
  mem := ⟨[]⟩
  inputs := []
  inputNo := 0
  answers := []
  answerNo := 0
  trace := []

/-- Why the machine would stop with a fault: for no reason. Nothing in spec/ stops the block; every error is a status
of a response (R272: the block accepts the next command at once). Log 17; safe, since no behaviour is cut off. -/
inductive Fault where
deriving DecidableEq, Repr

/-- Why the machine would refuse an instruction. -/
inductive Refusal where
  /-- Raised by an arm of `exec` whose instruction has no meaning yet; no arm is left that does. Safe: the model stops
  where the hardware goes on. -/
  | notModelled (mnemonic : String)
deriving DecidableEq, Repr

end Sys2Proof.Machine
end

