-- ==== Sys2Proof/Machine/Flags.lean ====
section
/-! DEFINITION. Flags.lean: what the control flags give: the control word (spec/10_state.md R31), the prescale update
(spec/41_pwm_controller.md R166) and the derived controller state (R25). -/

namespace Sys2Proof.Machine

/-- `flags with {started = 0}`. -/
def Flags.stop (f : Flags) : Flags := { f with started := false }

/-- `flags with {started = 1}`. -/
def Flags.start (f : Flags) : Flags := { f with started := true }

/-- `flags with {polarity = b}`. -/
def Flags.setPolarity (f : Flags) (b : Bool) : Flags := { f with polarity := b }

/-- `ctrl_word(f)` (R31): started in bit 0, autoreload in bit 1, the ratio in bits 4:2, prescale_enable in bit 5,
polarity in bit 7, every other bit 0. -/
def ctrlWord (f : Flags) : Word :=
  (BitVec.ofBool f.started).setWidth 32
    ||| ((BitVec.ofBool f.autoreload).setWidth 32 <<< 1)
    ||| (f.prescaleRatio.setWidth 32 <<< 2)
    ||| ((BitVec.ofBool f.prescaleEnable).setWidth 32 <<< 5)
    ||| ((BitVec.ofBool f.polarity).setWidth 32 <<< 7)

/-- `prescale_apply(f, en, r)` (R166), in both modes of PRESCALE_MODE. -/
def prescaleApply (mode : Config.PrescaleMode) (f : Flags) (en : Bool) (r : BitVec 3) : Flags :=
  match mode with
  | .merge => { f with prescaleEnable := en, prescaleRatio := r }
  | .refClear => ⟨false, false, false, false, r⟩

/-- `ctl_state` (R25). -/
def Regs.ctlState (r : Regs) : CtlState :=
  if r.detached then .detached
  else if !r.configured then .unconfigured
  else if r.flags.started then .running
  else .configuredOff

end Sys2Proof.Machine
end

