-- ==== Sys2Proof/Syntax.lean ====
section
/-! DEFINITION. Syntax.lean: the thirteen commands of spec/30_encoding.md R96, one constructor for each row of the
opcode table, with the operand fields of R91 and R92. -/

namespace Sys2Proof

/-- The commands the block accepts at its command port (spec/30_encoding.md R96). -/
inductive Instr where
  /-- CFGFREQ: `a` is the requested frequency, an i32 (R156). -/
  | cfgfreq (a : Word)
  /-- SETDUTY: `a` is the percentage, an i32 (R158). -/
  | setduty (a : Word)
  /-- ON (R159). -/
  | on
  /-- OFF (R161). -/
  | off
  /-- SETPOL: `a` is 0 (active low) or 1 (active high), see `Instr.WellFormed` (R163). -/
  | setpol (a : Word)
  /-- SETPRE: `a` is the divisor, an i32 (R165). -/
  | setpre (a : Word)
  /-- GETDUTY (R168). -/
  | getduty
  /-- GETFREQ (R169). -/
  | getfreq
  /-- PBSTART: buffer base address, buffer length in bytes, sample interval in ticks, all u32 (R201). -/
  | pbstart (a b c : Word)
  /-- PBSTOP (R203). -/
  | pbstop
  /-- PBSYNC (R204). -/
  | pbsync
  /-- PBPOS (R205). -/
  | pbpos
  /-- DETACH (R170). -/
  | detach
deriving DecidableEq, Repr

/-- The three classes of R96: whether a command passes the configuration lock and can be withdrawn (R241, R244). -/
inductive CmdClass where
  | cfg
  | pb
  | life
deriving DecidableEq, Repr

end Sys2Proof
end

