-- ==== Sys2Proof/WellFormed.lean ====
section
/-! DEFINITION. WellFormed.lean: which terms of `Instr` a command word can stand for. -/

namespace Sys2Proof

/-- Every operand is one whole 32-bit field, so the one check is SETPOL's: `a[31:1]` must be 0
(spec/30_encoding.md R92, R97). -/
def Instr.WellFormed : Instr → Bool
  | .setpol a => a.toNat ≤ 1
  | .cfgfreq _ => true
  | .setduty _ => true
  | .on => true
  | .off => true
  | .setpre _ => true
  | .getduty => true
  | .getfreq => true
  | .pbstart _ _ _ => true
  | .pbstop => true
  | .pbsync => true
  | .pbpos => true
  | .detach => true

end Sys2Proof
end

