-- ==== Sys2Proof/Decode.lean ====
section
/-! DEFINITION. Decode.lean: the command word of spec/30_encoding.md: its fields, the total decoder (R97 to R99), and
the encoder. -/

namespace Sys2Proof

/-- The fields of the command word (R91). -/
def cmdOp (w : CommandWord) : BitVec 8 := w.extractLsb' 120 8
/-- Reserved, must be 0 (R91). -/
def cmdRsv (w : CommandWord) : BitVec 24 := w.extractLsb' 96 24
/-- Third operand (R91). -/
def cmdC (w : CommandWord) : Word := w.extractLsb' 64 32
/-- Second operand (R91). -/
def cmdB (w : CommandWord) : Word := w.extractLsb' 32 32
/-- First operand (R91). -/
def cmdA (w : CommandWord) : Word := w.extractLsb' 0 32

/-- A word put together from its five fields, left to right as R91 writes it. -/
def cmdWord (op : BitVec 8) (rsv : BitVec 24) (c b a : Word) : CommandWord :=
  (op ++ (rsv ++ (c ++ (b ++ a)))).cast (by decide)

/-- Why a word is illegal (R98). All four get the one verdict IllegalCommand. -/
inductive Illegal where
  /-- An `op` not in R96, 0x00 among them. -/
  | unknownOp
  /-- A nonzero `rsv`. -/
  | reservedBits
  /-- A nonzero operand field that the command does not use. -/
  | unusedOperand
  /-- SETPOL with `a > 1`. -/
  | setpolOperand
deriving DecidableEq, Repr

/-- A command with no operand: every operand field must be 0 (R91, R97). -/
def decodePlain (w : CommandWord) (i : Instr) : Except Illegal Instr :=
  if cmdC w = 0 ∧ cmdB w = 0 ∧ cmdA w = 0 then .ok i else .error .unusedOperand

/-- A command with the operand `a` only (R97). -/
def decodeUnary (w : CommandWord) (i : Word → Instr) : Except Illegal Instr :=
  if cmdC w = 0 ∧ cmdB w = 0 then .ok (i (cmdA w)) else .error .unusedOperand

/-- The decoder: total, and it reads no state (R97, R98, R99). -/
def decode (w : CommandWord) : Except Illegal Instr :=
  if cmdRsv w ≠ 0 then .error .reservedBits
  else match (cmdOp w).toNat with
    | 0x01 => decodeUnary w .cfgfreq
    | 0x02 => decodeUnary w .setduty
    | 0x03 => decodePlain w .on
    | 0x04 => decodePlain w .off
    | 0x05 => if (cmdA w).toNat ≤ 1 then decodeUnary w .setpol else .error .setpolOperand
    | 0x06 => decodeUnary w .setpre
    | 0x07 => decodePlain w .getduty
    | 0x08 => decodePlain w .getfreq
    | 0x10 => .ok (.pbstart (cmdA w) (cmdB w) (cmdC w))
    | 0x11 => decodePlain w .pbstop
    | 0x12 => decodePlain w .pbsync
    | 0x13 => decodePlain w .pbpos
    | 0x20 => decodePlain w .detach
    | _ => .error .unknownOp

/-- The opcode of a command (R96). -/
def Instr.opcode : Instr → BitVec 8
  | .cfgfreq _ => 0x01
  | .setduty _ => 0x02
  | .on => 0x03
  | .off => 0x04
  | .setpol _ => 0x05
  | .setpre _ => 0x06
  | .getduty => 0x07
  | .getfreq => 0x08
  | .pbstart _ _ _ => 0x10
  | .pbstop => 0x11
  | .pbsync => 0x12
  | .pbpos => 0x13
  | .detach => 0x20

/-- The operand fields `(c, b, a)` of a command; a field it does not use is 0 (R91, R96). -/
def Instr.operands : Instr → Word × Word × Word
  | .cfgfreq a => (0, 0, a)
  | .setduty a => (0, 0, a)
  | .on => (0, 0, 0)
  | .off => (0, 0, 0)
  | .setpol a => (0, 0, a)
  | .setpre a => (0, 0, a)
  | .getduty => (0, 0, 0)
  | .getfreq => (0, 0, 0)
  | .pbstart a b c => (c, b, a)
  | .pbstop => (0, 0, 0)
  | .pbsync => (0, 0, 0)
  | .pbpos => (0, 0, 0)
  | .detach => (0, 0, 0)

/-- The command word of a command (R91, R96). -/
def encode (i : Instr) : CommandWord :=
  cmdWord i.opcode 0 i.operands.1 i.operands.2.1 i.operands.2.2

/-- The host's reading of the decoder: a row's word `w` of `nbits` bits, numbered with bit 0 the least significant, is
the whole 128-bit command word (R90: the port carries whole words, so no byte order is involved). -/
def decodeTableWord (nbits w : Nat) : Option Instr :=
  if w < 2 ^ min nbits 128 then (decode (BitVec.ofNat 128 w)).toOption else none

end Sys2Proof
end

