-- ==== Sys2Proof/Machine/Operands.lean ====
section
/-! DEFINITION. Operands.lean: how a command's operand fields are read (spec/30_encoding.md R92), and its class (R96). -/

namespace Sys2Proof.Machine

/-- `as_i32(w)`: a 32-bit word read as two's complement (spec/00_scope.md R12). -/
def asI32 (w : Word) : Int := w.toInt

/-- `as_u32` of a mathematical integer: the value modulo 2^32 (R12). -/
def asU32 (v : Int) : Word := BitVec.ofInt 32 v

/-- The unsigned value of a word, as a mathematical integer (R12, zext_32). -/
def zext32 (w : Word) : Int := (w.toNat : Int)

/-- The bool operand of SETPOL is `a[0]` (R92). -/
def boolOperand (a : Word) : Bool := a.getLsbD 0

/-- The class of a command (R96). -/
def classOf : Instr → CmdClass
  | .cfgfreq _ => .cfg
  | .setduty _ => .cfg
  | .on => .cfg
  | .off => .cfg
  | .setpol _ => .cfg
  | .setpre _ => .cfg
  | .getduty => .cfg
  | .getfreq => .cfg
  | .pbstart _ _ _ => .pb
  | .pbstop => .pb
  | .pbsync => .pb
  | .pbpos => .pb
  | .detach => .life

end Sys2Proof.Machine
end

