-- ==== Sys2Proof/Machine/TimerModel.lean ====
section
/-! DEFINITION. TimerModel.lean: the pure functions of spec/40_timer_register_model.md (R120). All arithmetic is on
mathematical integers; the caller narrows the result. -/

namespace Sys2Proof.Machine

/-- `clamp_freq(req)` (R121): fallback first, then the cap, then clear bit 0. -/
def clampFreq (p : Config.Platform) (req : Int) : Int :=
  let f0 := if req ≤ 0 then asI32 p.defaultFreq else req
  let cap := (p.inputFreq : Int) / 2
  let f1 := if f0 > cap then cap else f0
  f1 - f1 % 2

/-- `compute_reload(f, input_freq)` (R122). No rule calls it with `f = 0`. -/
def computeReload (f inputFreq : Int) : Int :=
  let q := inputFreq / f
  maxU32 - (q - 1)

/-- `num_counts(reload)` (R124). -/
def numCounts (reload : Int) : Int := (maxU32 - 1) - reload

/-- `clamp(x, lo, hi)` (R126). -/
def clamp (x lo hi : Int) : Int := if x < lo then lo else if x > hi then hi else x

/-- `compute_match(p, reload, n)` (R127): `none` means that the channel is forced OFF with no match write. -/
def computeMatch (p reload n : Int) : Option Int :=
  if p = 0 then none
  else
    let x := p * n / 100
    let offset := clamp x 1 n
    some (reload + offset)

/-- `duty_of(match, reload)` (R129). -/
def dutyOf (mtch reload : Int) : Int :=
  let n := numCounts reload
  100 * (mtch - reload) / n

/-- `duty_from_sample(s)` (R130). -/
def dutyFromSample (s : Byte) : Int := (s.toNat : Int) * 100 / 256

/-- The loop of `log2_floor` (R132) for at most `fuel` rounds. -/
def halvings : (fuel d : Nat) → Nat
  | 0, _ => 0
  | fuel + 1, d => if d > 1 then halvings fuel (d / 2) + 1 else 0

/-- `log2_floor(d)` (R132) by repeated halving. SETPRE's divisor has at most 31 bits, so 32 rounds are enough. -/
def log2Floor (d : Nat) : Nat := halvings 32 d

/-- The range test of ON and GETDUTY (R159, R168): `reload < match ≤ MAXU32 − 1`. -/
def matchInRange (reload mtch : Int) : Bool := reload < mtch && mtch ≤ maxU32 - 1

end Sys2Proof.Machine
end

