-- ==== Sys2Proof/Machine/Ops.lean ====
section
/-! DEFINITION. Ops.lean: the named operations every meaning is written in: the sample memory, the environment's answers,
the access primitives (spec/00_scope.md R14), raising an error (R15), responses (R100), the command prelude
(spec/41_pwm_controller.md R151), reset, and the commit blocks (R13). -/

namespace Sys2Proof.Machine

/-! ### The sample memory (spec/20_memory.md R70) -/

/-- What a byte that no cell lists reads as. DESIGN CHOICE, unsafe, log 4. -/
def unlistedByte : Byte := 0

/-- The byte at an address, over the cells. -/
def readCells : List Host.Cell → Nat → Byte
  | [], _ => unlistedByte
  | (b, v) :: rest, a => if a = b then v else readCells rest a

/-- The cells with one byte changed, kept in canonical form. -/
def writeCells : List Host.Cell → Nat → Byte → List Host.Cell
  | [], a, v => if v = unlistedByte then [] else [(a, v)]
  | (b, w) :: rest, a, v =>
    if a < b then (if v = unlistedByte then (b, w) :: rest else (a, v) :: (b, w) :: rest)
    else if a = b then (if v = unlistedByte then rest else (a, v) :: rest)
    else (b, w) :: writeCells rest a v

/-- The byte the sample memory holds at an address. -/
def Memory.read (m : Memory) (a : Nat) : Byte := readCells m.cells a

/-- The host's change of one byte (R70). -/
def Memory.write (m : Memory) (a : Nat) (v : Byte) : Memory := ⟨writeCells m.cells a v⟩

/-- The one canonical form: addresses strictly rising and inside the 32-bit space, and no entry equal to what an
unlisted address reads as. -/
abbrev Memory.wf (m : Memory) : Prop :=
  m.cells.Pairwise (fun x y => x.1 < y.1) ∧ ∀ c ∈ m.cells, c.2 ≠ unlistedByte ∧ c.1 < 2 ^ 32

/-! ### Updates of the state -/

/-- One more event at the end of the trace (R82). -/
def State.emit (s : State) (e : Event) : State := { s with trace := s.trace ++ [e] }

/-- A commit block (R13): all writes of the block's registers at once. -/
def State.commit (s : State) (f : Regs → Regs) : State := { s with regs := f s.regs }

/-- The sample memory replaced. -/
def State.setMem (s : State) (m : Memory) : State := { s with mem := m }

/-- The answer to the k-th access from here: the one listed, or a free value (R62). -/
def State.answer (s : State) (k : Nat) : Config.Answer :=
  (s.answers[k]?).getD (Config.freeAnswer (s.answerNo + k))

/-- `n` more answers used. -/
def State.answered (s : State) (n : Nat) : State :=
  { s with answers := s.answers.drop n, answerNo := s.answerNo + n }

/-- The next input: the one listed, or a free value (R243). -/
def State.nextInput (s : State) : Config.Input := s.inputs.headD (Config.freeInput s.inputNo)

/-- The next input taken. -/
def State.inputTaken (s : State) : State := { s with inputs := s.inputs.drop 1, inputNo := s.inputNo + 1 }

/-! ### Results of operations (spec/00_scope.md R15) -/

/-- What an operation ends with: a value, or the error it raised. Both carry the state, because accesses already issued
stay issued and commit blocks already executed stay executed. -/
inductive Result (α : Type) where
  | ok (value : α) (s : State)
  | raised (e : ErrorKind) (s : State)

/-- What follows in the pseudocode: an error ends the operation at once (R15). -/
def Result.andThen {α β : Type} (r : Result α) (f : α → State → Result β) : Result β :=
  match r with
  | .ok v s => f v s
  | .raised e s => .raised e s

/-- The state an operation leaves. -/
def Result.state {α : Type} : Result α → State
  | .ok _ s => s
  | .raised _ s => s

/-- The error an operation raised, if it did. -/
def Result.error {α : Type} : Result α → Option ErrorKind
  | .ok _ _ => none
  | .raised e _ => some e

/-- A precondition that needs no access: when it fails the operation raises `e` (R15, R16). -/
def require (c : Bool) (e : ErrorKind) (s : State) : Result Unit := if c then .ok () s else .raised e s

/-! ### The access primitives (R14) -/

/-- The offset of a timer register (R11, R32). -/
def regOffset (p : Config.Platform) : TimerReg → Nat
  | .ctrl => p.offCtrl
  | .counter => p.offCounter
  | .reload => p.offReload
  | .matchReg => p.offMatch

/-- `REG_BASE + off`, the address of a timer register (R32, R61). -/
def regAddr (p : Config.Platform) (r : TimerReg) : Word := p.regBase + BitVec.ofNat 32 (regOffset p r)

/-- MUXFN applied to the saved value (R11, R152). -/
def muxValue (m : Config.MuxFn) (v : Half) : Half := (m.table.lookup v).getD m.other

/-- `RegWrite32(REG_BASE + off, v)` (R14, R61): the environment answers with success or failure (R62), and a failure
raises IOError (R63). -/
def regWrite (r : TimerReg) (v : Word) (s : State) : Result Unit :=
  match s.answer 0 with
  | .done _ => .ok () ((s.answered 1).emit (.write32 (regAddr s.platform r) v true))
  | .failed => .raised .ioError ((s.answered 1).emit (.write32 (regAddr s.platform r) v false))

/-- `MuxRead16(MUX_OFF)` (R14, R66). -/
def muxRead (s : State) : Result Half :=
  match s.answer 0 with
  | .done v => .ok v ((s.answered 1).emit (.read16 s.platform.muxOff (some v)))
  | .failed => .raised .ioError ((s.answered 1).emit (.read16 s.platform.muxOff none))

/-- `MuxWrite16(MUX_OFF, v)` (R14, R66). -/
def muxWrite (v : Half) (s : State) : Result Unit :=
  match s.answer 0 with
  | .done _ => .ok () ((s.answered 1).emit (.write16 s.platform.muxOff v true))
  | .failed => .raised .ioError ((s.answered 1).emit (.write16 s.platform.muxOff v false))

/-- `MemRead(addr, 1)` (R14, R70): it cannot fail and has no side effect. -/
def memRead (addr : Word) (s : State) : Byte × State :=
  let b := s.mem.read addr.toNat
  (b, s.emit (.memRead addr b))

/-! ### Responses and errors -/

/-- The code of an error kind (R101). -/
def ErrorKind.code : ErrorKind → BitVec 8
  | .configError => 0x01
  | .ioError => 0x02
  | .busyError => 0x03
  | .stateError => 0x04
  | .cancelledError => 0x05
  | .illegalCommand => 0x06

/-- The code of a status (R101). -/
def Status.code : Status → BitVec 8
  | .ok => 0x00
  | .error e => e.code

/-- The status that reports an error, or OK where there is none. -/
def Status.ofError : Option ErrorKind → Status
  | none => .ok
  | some e => .error e

/-- The response word: op in bits 47:40, status in 39:32, value in 31:0 (R100). -/
def Response.word (r : Response) : ResponseWord := (r.op ++ (r.status.code ++ r.value)).cast (by decide)

/-- `respond(op, status, value)` (R100). -/
def respond (op : BitVec 8) (status : Status) (value : Word) (s : State) : State :=
  s.emit (.response ⟨op, status, value⟩)

/-- TAKING AN EXCEPTION, the one shared operation (R272): no state is saved, no mode changes, control goes nowhere; the
response carries the error's status with value 0 (R101, R267), and the block accepts the next command at once. There is
no return from it, because there is no handler (R273). -/
def takeError (op : BitVec 8) (e : ErrorKind) (s : State) : State := respond op (.error e) 0 s

/-- The rest of the command prelude (R151) once the command is granted: StateError if DETACHED, else the body and its
response. The body's value is `none` where no response is due in this transition (an accepted PBSTART, R103, R201). -/
def command (op : BitVec 8) (body : State → Result (Option Word)) (s : State) : State :=
  if s.regs.detached then takeError op .stateError s
  else
    match body s with
    | .ok (some v) t => respond op .ok v t
    | .ok none t => t
    | .raised e t => takeError op e t

/-- A command body that ends with `return (OK, 0)`. -/
def returnZero (r : Result Unit) : Result (Option Word) := r.andThen fun _ t => .ok (some 0) t

/-- Attach (R300, R301): every state variable at its reset value, and no access. The parameters and the environment
(the sample memory, what is still to come, what has been observed) are not the block's and stay. -/
def attach (s : State) : State := s.commit fun _ => Regs.reset

/-! ### The commit blocks, as updates of the block's registers -/

/-- enable_mux's early commit (R152). -/
def Regs.saveMux (v : Half) (r : Regs) : Regs := { r with savedMux := v, muxSaved := true }

/-- The commit of every operation that writes flags only (R154, R159, R163, R165). -/
def Regs.setFlags (f : Flags) (r : Regs) : Regs := { r with flags := f }

/-- op_configure_frequency's commit (R155). -/
def Regs.commitFrequency (reload f : Word) (r : Regs) : Regs :=
  { r with reloadValue := reload, frequency := f, configured := true }

/-- op_set_duty_cycle's commit for a nonzero percentage (R157). -/
def Regs.commitDuty (m : Word) (r : Regs) : Regs := { r with matchValue := m, flags := r.flags.start }

/-- DETACH's commit (R170). -/
def Regs.commitDetach (r : Regs) : Regs := { r with flags := r.flags.stop, detached := true }

/-- PBSTART's commit (R201). -/
def Regs.startSession (a b c : Word) (r : Regs) : Regs :=
  { r with active := true, cursor := 0, bufBase := a, bufLen := b, interval := c, sleepCnt := 0, pbErr := none,
           seqState := .check }

/-- PBSTOP's and PBSYNC's commit (R203). -/
def Regs.clearActive (r : Regs) : Regs := { r with active := false }

/-- seq_exit's commit (R211). -/
def Regs.endSession (r : Regs) : Regs := { r with active := false, pbErr := none, seqState := .idle }

/-- seq_check's commit where the session goes on (R210). -/
def Regs.enterLoad (r : Regs) : Regs := { r with seqState := .load }

/-- seq_load's commit on success (R212). -/
def Regs.enterSleep (r : Regs) : Regs := { r with sleepCnt := r.interval, seqState := .sleep }

/-- seq_load's commit on error (R212). -/
def Regs.failLoad (e : ErrorKind) (r : Regs) : Regs := { r with pbErr := some e, seqState := .check }

/-- tick's commit (R213). -/
def Regs.countTick (r : Regs) : Regs := { r with sleepCnt := r.sleepCnt - 1 }

/-- seq_advance's commit (R214). -/
def Regs.advanceCursor (r : Regs) : Regs := { r with cursor := r.cursor + 1, seqState := .check }

end Sys2Proof.Machine
end

