-- ==== Sys2Proof/Machine/Controller.lean ====
section
/-! DEFINITION. Controller.lean: the PWM controller of spec/41_pwm_controller.md: the shared operations (R152 to R157)
and the nine commands CFGFREQ to GETFREQ and DETACH (R156 to R170). -/

namespace Sys2Proof.Machine

/-- `enable_mux` (R152). Its commit block is executed at once and is not undone by a later failure. -/
def enableMux (s : State) : Result Unit :=
  if s.regs.muxSaved then .ok () s
  else
    (muxRead s).andThen fun v s =>
    (muxWrite (muxValue s.platform.muxFn v) s).andThen fun _ s =>
    .ok () (s.commit (Regs.saveMux v))

/-- The common tail of OFF, SETPOL, SETPRE and the forced OFF: enable_mux, one control write of the new flags, and the
commit of the flags (R154, R163, R165). -/
def opWriteFlags (f : Flags) (s : State) : Result Unit :=
  (enableMux s).andThen fun _ s =>
  (regWrite .ctrl (ctrlWord f) s).andThen fun _ s =>
  .ok () (s.commit (Regs.setFlags f))

/-- `op_turn_off` (R154). -/
def opTurnOff (s : State) : Result Unit := opWriteFlags s.regs.flags.stop s

/-- `op_configure_frequency(req)` (R155). -/
def opConfigureFrequency (req : Int) (s : State) : Result Unit :=
  let f := clampFreq s.platform req
  let r := asU32 (computeReload f s.platform.inputFreq)
  (require (f ≠ 0) .configError s).andThen fun _ s =>
  (enableMux s).andThen fun _ s =>
  (regWrite .reload r s).andThen fun _ s =>
  (regWrite .counter r s).andThen fun _ s =>
  .ok () (s.commit (Regs.commitFrequency r (asU32 f)))

/-- `op_set_duty_cycle(p)` (R157). -/
def opSetDutyCycle (p : Int) (s : State) : Result Unit :=
  let reload := zext32 s.regs.reloadValue
  let n := numCounts reload
  (require (0 ≤ p && p ≤ 100) .configError s).andThen fun _ s =>
  (require (p = 0 || s.regs.configured) .stateError s).andThen fun _ s =>
  (require (p = 0 || n ≠ 0) .configError s).andThen fun _ s =>
  (enableMux s).andThen fun _ s =>
  (regWrite .ctrl (ctrlWord s.regs.flags.stop) s).andThen fun _ s =>
  match computeMatch p reload n with
  | none => .ok () (s.commit (Regs.setFlags s.regs.flags.stop))
  | some m =>
    (regWrite .matchReg (asU32 m) s).andThen fun _ s =>
    (regWrite .ctrl (ctrlWord s.regs.flags.start) s).andThen fun _ s =>
    .ok () (s.commit (Regs.commitDuty (asU32 m)))

/-- CFGFREQ (R156). -/
def execCfgfreq (a : Word) (s : State) : Host.Outcome State Fault Refusal :=
  .next (command 0x01 (fun s => returnZero (opConfigureFrequency (asI32 a) s)) s)

/-- SETDUTY (R158). -/
def execSetduty (a : Word) (s : State) : Host.Outcome State Fault Refusal :=
  .next (command 0x02 (fun s => returnZero (opSetDutyCycle (asI32 a) s)) s)

/-- The range test of R159 and R168 on the shadows. -/
def Regs.matchOk (r : Regs) : Bool := matchInRange (zext32 r.reloadValue) (zext32 r.matchValue)

/-- The body of ON (R159). -/
def bodyOn (s : State) : Result Unit :=
  (require s.regs.configured .stateError s).andThen fun _ s =>
  (require s.regs.matchOk .configError s).andThen fun _ s =>
  (enableMux s).andThen fun _ s =>
  (regWrite .matchReg s.regs.matchValue s).andThen fun _ s =>
  (regWrite .ctrl (ctrlWord s.regs.flags.start) s).andThen fun _ s =>
  .ok () (s.commit (Regs.setFlags s.regs.flags.start))

/-- ON (R159). -/
def execOn (s : State) : Host.Outcome State Fault Refusal :=
  .next (command 0x03 (fun s => returnZero (bodyOn s)) s)

/-- OFF (R161). -/
def execOff (s : State) : Host.Outcome State Fault Refusal :=
  .next (command 0x04 (fun s => returnZero (opTurnOff s)) s)

/-- SETPOL (R163). -/
def execSetpol (a : Word) (s : State) : Host.Outcome State Fault Refusal :=
  .next (command 0x05 (fun s => returnZero (opWriteFlags (s.regs.flags.setPolarity (boolOperand a)) s)) s)

/-- The body of SETPRE (R165), with the prescale update of R166. -/
def bodySetpre (d : Int) (s : State) : Result Unit :=
  let r := log2Floor d.toNat
  (require (0 < d) .configError s).andThen fun _ s =>
  (require (r ≤ 7) .configError s).andThen fun _ s =>
  opWriteFlags (prescaleApply s.platform.prescaleMode s.regs.flags (2 ≤ d) (BitVec.ofNat 3 r)) s

/-- SETPRE (R165). -/
def execSetpre (a : Word) (s : State) : Host.Outcome State Fault Refusal :=
  .next (command 0x06 (fun s => returnZero (bodySetpre (asI32 a) s)) s)

/-- The body of GETDUTY (R168): no access, no enable_mux, no state written. -/
def bodyGetduty (s : State) : Result (Option Word) :=
  (require s.regs.flags.started .stateError s).andThen fun _ s =>
  (require (numCounts (zext32 s.regs.reloadValue) ≠ 0) .configError s).andThen fun _ s =>
  (require s.regs.matchOk .configError s).andThen fun _ s =>
  .ok (some (asU32 (dutyOf (zext32 s.regs.matchValue) (zext32 s.regs.reloadValue)))) s

/-- GETDUTY (R168). -/
def execGetduty (s : State) : Host.Outcome State Fault Refusal := .next (command 0x07 bodyGetduty s)

/-- GETFREQ (R169). -/
def execGetfreq (s : State) : Host.Outcome State Fault Refusal :=
  .next (command 0x08 (fun s => .ok (some s.regs.frequency) s) s)

/-- Whether a session is active or still draining: the busy test of PBSTART (R201) and DETACH (R170). -/
def Regs.busy (r : Regs) : Bool := r.active || r.seqState ≠ .idle

/-- The body of DETACH (R170): stop the signal if it runs, restore the mux if it was saved; no enable_mux. -/
def bodyDetach (s : State) : Result Unit :=
  (require (!s.regs.busy) .busyError s).andThen fun _ s =>
  (if s.regs.flags.started then regWrite .ctrl (ctrlWord s.regs.flags.stop) s else .ok () s).andThen fun _ s =>
  (if s.regs.muxSaved then muxWrite s.regs.savedMux s else .ok () s).andThen fun _ s =>
  .ok () (s.commit Regs.commitDetach)

/-- DETACH (R170). -/
def execDetach (s : State) : Host.Outcome State Fault Refusal :=
  .next (command 0x20 (fun s => returnZero (bodyDetach s)) s)

end Sys2Proof.Machine
end

