-- ==== Sys2Proof/Machine/Playback.lean ====
section
/-! DEFINITION. Playback.lean: the playback sequencer of spec/42_playback_engine.md: the four PB commands (R201 to R205)
and the internal transitions seq_check with seq_exit, seq_load, tick and seq_advance (R210 to R214). -/

namespace Sys2Proof.Machine

/-- The body of PBSTART (R201). It issues no access; an accepted PBSTART has no response yet. -/
def bodyPbstart (a b c : Word) (s : State) : Result (Option Word) :=
  (require (!s.regs.busy) .busyError s).andThen fun _ s =>
  (require (a.toNat + b.toNat ≤ 2 ^ 32) .configError s).andThen fun _ s =>
  .ok none (s.commit (Regs.startSession a b c))

/-- PBSTART (R201). -/
def execPbstart (a b c : Word) (s : State) : Host.Outcome State Fault Refusal :=
  .next (command 0x10 (bodyPbstart a b c) s)

/-- The body of PBSTOP (R203) and PBSYNC (R204): a no-op when no session is active, else op_turn_off and then
`active <- 0`; an IOError aborts the whole command. -/
def bodyStop (s : State) : Result Unit :=
  if s.regs.active then
    (opTurnOff s).andThen fun _ s => .ok () (s.commit Regs.clearActive)
  else .ok () s

/-- PBSTOP (R203). -/
def execPbstop (s : State) : Host.Outcome State Fault Refusal :=
  .next (command 0x11 (fun s => returnZero (bodyStop s)) s)

/-- PBSYNC (R204). -/
def execPbsync (s : State) : Host.Outcome State Fault Refusal :=
  .next (command 0x12 (fun s => returnZero (bodyStop s)) s)

/-- PBPOS (R205). -/
def execPbpos (s : State) : Host.Outcome State Fault Refusal :=
  .next (command 0x13 (fun s => .ok (some s.regs.cursor) s) s)

/-- `seq_exit` (R211): op_turn_off is called on every exit; the commit block is executed whatever its result; the
deferred PBSTART response carries the first error of the session, and the cursor. -/
def seqExit (s : State) : State :=
  let r := opTurnOff s
  let e := match s.regs.pbErr with
    | some e => some e
    | none => r.error
  let t := r.state.commit Regs.endSession
  respond 0x10 (.ofError e) t.regs.cursor t

/-- `seq_check` (R210). -/
def seqCheck (s : State) : State :=
  if s.regs.pbErr ≠ none ∨ s.regs.active = false ∨ s.regs.cursor = s.regs.bufLen then seqExit s
  else s.commit Regs.enterLoad

/-- The address of the next sample (R71). -/
def Regs.sampleAddr (r : Regs) : Word := r.bufBase + r.cursor

/-- `seq_load` (R212): one byte is read and the two controller operations run as one transition (R242). -/
def seqLoad (s : State) : State :=
  let sample := memRead s.regs.sampleAddr s
  match (opConfigureFrequency (asI32 s.platform.baseClock) sample.2).andThen fun _ s =>
      opSetDutyCycle (dutyFromSample sample.1) s with
  | .ok _ t => t.commit Regs.enterSleep
  | .raised e t => t.commit (Regs.failLoad e)

/-- `tick` (R213). The tick itself is an event of the trace (R82). -/
def tick (s : State) : State :=
  let t := s.emit .tick
  if s.regs.seqState = .sleep ∧ s.regs.sleepCnt ≠ 0 then t.commit Regs.countTick else t

/-- `seq_advance` (R214). -/
def seqAdvance (s : State) : State := s.commit Regs.advanceCursor

/-- The sequencer's turn: the internal transition that is enabled (R243), of which there is at most one; where none is,
nothing happens. -/
def sequencer (s : State) : State :=
  match s.regs.seqState with
  | .idle => s
  | .check => seqCheck s
  | .load => seqLoad s
  | .sleep => if s.regs.sleepCnt = 0 then seqAdvance s else s

end Sys2Proof.Machine
end

