-- ==== Sys2Proof/Machine/Dispatch.lean ====
section
/-! DEFINITION. Dispatch.lean: one arm per command, each a direct call of its meaning. -/

namespace Sys2Proof.Machine

def exec (i : Instr) (s : State) : Host.Outcome State Fault Refusal :=
  match i with
  | .cfgfreq a => Sys2Proof.Machine.execCfgfreq a s
  | .setduty a => Sys2Proof.Machine.execSetduty a s
  | .on => Sys2Proof.Machine.execOn s
  | .off => Sys2Proof.Machine.execOff s
  | .setpol a => Sys2Proof.Machine.execSetpol a s
  | .setpre a => Sys2Proof.Machine.execSetpre a s
  | .getduty => Sys2Proof.Machine.execGetduty s
  | .getfreq => Sys2Proof.Machine.execGetfreq s
  | .pbstart a b c => Sys2Proof.Machine.execPbstart a b c s
  | .pbstop => Sys2Proof.Machine.execPbstop s
  | .pbsync => Sys2Proof.Machine.execPbsync s
  | .pbpos => Sys2Proof.Machine.execPbpos s
  | .detach => Sys2Proof.Machine.execDetach s

end Sys2Proof.Machine
end

