-- ==== Sys2Proof/Machine/Guard.lean ====
section
/-! DEFINITION. Guard.lean: the concurrency guard of spec/43_concurrency_guard.md: what one input makes of the state.
Each is one whole transition (R240), so the lock and the cursor guard are not state (R37, R242, R246). -/

namespace Sys2Proof.Machine

/-- A command word at the command port. An illegal word is answered IllegalCommand before anything else (R98, R266); a
withdrawn CFG command is answered CancelledError before any state is looked at (R151, R244); PB and LIFE commands cannot
be withdrawn, so for them the withdrawal does nothing (R244). Neither answer has another effect. -/
def present (w : CommandWord) (withdrawn : Bool) (s : State) : Host.Outcome State Fault Refusal :=
  match decode w with
  | .error _ => .next (takeError (cmdOp w) .illegalCommand s)
  | .ok i =>
    if withdrawn ∧ classOf i = .cfg then .next (takeError i.opcode .cancelledError s)
    else exec i s

/-- The transition one input stands for (R240, R243). -/
def transition (i : Config.Input) (s : State) : Host.Outcome State Fault Refusal :=
  match i with
  | .command w withdrawn => present w withdrawn s
  | .tick => .next (tick s)
  | .sequencer => .next (sequencer s)
  | .hostStore a b => .next (s.setMem (s.mem.write a.toNat b))
  | .attach => .next (attach s)

/-- Where the command port takes its next word from: the head of the inputs. -/
def presentFirst (s : State) (nbits w : Nat) : State :=
  { s with inputs := .command (BitVec.ofNat 128 (w % 2 ^ nbits)) false :: s.inputs }

end Sys2Proof.Machine
end

