-- ==== Sys2Proof/Machine/Step.lean ====
section
/-! DEFINITION. Step.lean: one step takes one input (spec/43_concurrency_guard.md R240). -/

namespace Sys2Proof.Machine

/-- One transition of one instance (R240): the next input is taken, and its transition runs to its end. -/
def step (s : State) : Host.Outcome State Fault Refusal := transition s.nextInput s.inputTaken

/-- `s` with the command word `w` presented next, not withdrawn. The block fetches no instructions (R22); this stands
for the host presenting the word (log 16). -/
def State.withFetchWord (s : State) (nbits w : Nat) : State := presentFirst s nbits w

end Sys2Proof.Machine
end

