-- ==== Sys2Proof/Safety.lean ====
section
/-! DEFINITION. Safety.lean: the terms the claims use: the opcode table of spec/30_encoding.md R97, the preconditions
of R266 in one table, the part enable_mux plays in an operation (R152), the events a claim speaks of, and the invariants
of spec/10_state.md R41. -/

namespace Sys2Proof.Machine

/-! ### The opcode table -/

/-- The mnemonic of a command (R96). -/
def mnemonic : Instr → String
  | .cfgfreq _ => "CFGFREQ"
  | .setduty _ => "SETDUTY"
  | .on => "ON"
  | .off => "OFF"
  | .setpol _ => "SETPOL"
  | .setpre _ => "SETPRE"
  | .getduty => "GETDUTY"
  | .getfreq => "GETFREQ"
  | .pbstart _ _ _ => "PBSTART"
  | .pbstop => "PBSTOP"
  | .pbsync => "PBSYNC"
  | .pbpos => "PBPOS"
  | .detach => "DETACH"

/-- One row of the table of R97. -/
structure OpcodeRow where
  name : String
  fixed : CommandWord
  mask : CommandWord
deriving DecidableEq, Repr

/-- The table of R97. -/
def opcodeRows : List OpcodeRow := [
  ⟨"CFGFREQ", 0x01000000000000000000000000000000, 0xFFFFFFFFFFFFFFFFFFFFFFFF00000000⟩,
  ⟨"SETDUTY", 0x02000000000000000000000000000000, 0xFFFFFFFFFFFFFFFFFFFFFFFF00000000⟩,
  ⟨"ON", 0x03000000000000000000000000000000, 0xFFFFFFFFFFFFFFFFFFFFFFFFFFFFFFFF⟩,
  ⟨"OFF", 0x04000000000000000000000000000000, 0xFFFFFFFFFFFFFFFFFFFFFFFFFFFFFFFF⟩,
  ⟨"SETPOL", 0x05000000000000000000000000000000, 0xFFFFFFFFFFFFFFFFFFFFFFFFFFFFFFFE⟩,
  ⟨"SETPRE", 0x06000000000000000000000000000000, 0xFFFFFFFFFFFFFFFFFFFFFFFF00000000⟩,
  ⟨"GETDUTY", 0x07000000000000000000000000000000, 0xFFFFFFFFFFFFFFFFFFFFFFFFFFFFFFFF⟩,
  ⟨"GETFREQ", 0x08000000000000000000000000000000, 0xFFFFFFFFFFFFFFFFFFFFFFFFFFFFFFFF⟩,
  ⟨"PBSTART", 0x10000000000000000000000000000000, 0xFFFFFFFF000000000000000000000000⟩,
  ⟨"PBSTOP", 0x11000000000000000000000000000000, 0xFFFFFFFFFFFFFFFFFFFFFFFFFFFFFFFF⟩,
  ⟨"PBSYNC", 0x12000000000000000000000000000000, 0xFFFFFFFFFFFFFFFFFFFFFFFFFFFFFFFF⟩,
  ⟨"PBPOS", 0x13000000000000000000000000000000, 0xFFFFFFFFFFFFFFFFFFFFFFFFFFFFFFFF⟩,
  ⟨"DETACH", 0x20000000000000000000000000000000, 0xFFFFFFFFFFFFFFFFFFFFFFFFFFFFFFFF⟩]

/-! ### Preconditions and accesses -/

/-- The error of the first of a command's own preconditions that fails, in the order of R266 step 4 (R260, R262, R263). -/
def preconditionError (s : State) : Instr → Option ErrorKind
  | .cfgfreq a => if clampFreq s.platform a.toInt = 0 then some .configError else none
  | .setduty a =>
    if a.toInt < 0 ∨ 100 < a.toInt then some .configError
    else if a.toInt ≠ 0 ∧ s.regs.configured = false then some .stateError
    else if a.toInt ≠ 0 ∧ s.regs.reloadValue = 0xFFFFFFFE then some .configError
    else none
  | .on =>
    if s.regs.configured = false then some .stateError
    else if s.regs.reloadValue.toNat < s.regs.matchValue.toNat ∧ s.regs.matchValue.toNat ≤ 0xFFFFFFFE then none
    else some .configError
  | .off => none
  | .setpol _ => none
  | .setpre a => if a.toInt ≤ 0 then some .configError else if 256 ≤ a.toInt then some .configError else none
  | .getduty =>
    if s.regs.flags.started = false then some .stateError
    else if s.regs.reloadValue = 0xFFFFFFFE then some .configError
    else if s.regs.reloadValue.toNat < s.regs.matchValue.toNat ∧ s.regs.matchValue.toNat ≤ 0xFFFFFFFE then none
    else some .configError
  | .getfreq => none
  | .pbstart a b _ =>
    if s.regs.active = true ∨ s.regs.seqState ≠ .idle then some .busyError
    else if 2 ^ 32 < a.toNat + b.toNat then some .configError
    else none
  | .pbstop => none
  | .pbsync => none
  | .pbpos => none
  | .detach => if s.regs.active = true ∨ s.regs.seqState ≠ .idle then some .busyError else none

/-- The command is an operation that runs enable_mux once its preconditions have passed (R152): the six mutating
operations, and PBSTOP and PBSYNC through op_turn_off while a session is active. -/
def runsEnableMux (s : State) : Instr → Bool
  | .cfgfreq _ => true
  | .setduty _ => true
  | .on => true
  | .off => true
  | .setpol _ => true
  | .setpre _ => true
  | .getduty => false
  | .getfreq => false
  | .pbstart _ _ _ => false
  | .pbstop => s.regs.active
  | .pbsync => s.regs.active
  | .pbpos => false
  | .detach => false

/-- The access answered with success. -/
def succeeded : Config.Answer → Bool
  | .failed => false
  | .done _ => true

/-- The environment answers the next `n` accesses with success (R62). -/
abbrev State.accepts (s : State) (n : Nat) : Prop := ∀ k < n, succeeded (s.answer k) = true

/-- How many accesses enable_mux makes where both succeed: none once the mux has been saved (R152). -/
def muxAnswers (s : State) : Nat := if s.regs.muxSaved then 0 else 2

/-- The events of an enable_mux whose accesses succeed: `[mux]` of R172. -/
def muxEvents (s : State) : List Event :=
  if s.regs.muxSaved then []
  else match s.answer 0 with
    | .done v => [.read16 s.platform.muxOff (some v), .write16 s.platform.muxOff (muxValue s.platform.muxFn v) true]
    | .failed => []

/-- The block's registers after an enable_mux whose accesses succeed (R152). -/
def muxRegs (s : State) : Regs :=
  if s.regs.muxSaved then s.regs
  else match s.answer 0 with
    | .done v => { s.regs with muxSaved := true, savedMux := v }
    | .failed => s.regs

/-! ### Events -/

/-- The event is an access that failed (`-> ERR` in R82). -/
def Event.failed : Event → Bool
  | .write32 _ _ ok => !ok
  | .read16 _ v => v.isNone
  | .write16 _ _ ok => !ok
  | .memRead _ _ => false
  | .response _ => false
  | .tick => false

/-- The event is a response. -/
def Event.isResponse : Event → Bool
  | .response _ => true
  | .write32 _ _ _ => false
  | .read16 _ _ => false
  | .write16 _ _ _ => false
  | .memRead _ _ => false
  | .tick => false

/-- What R61, R66, R70, R71 and R101 allow an event of a transition from `s` to be. The control word's bits 6 and 31:8
are 0 (R31). -/
def Event.Conforms (s : State) : Event → Prop
  | .write32 addr v _ =>
    ∃ r, addr = regAddr s.platform r ∧ (r = .ctrl → v &&& 0xFFFFFF40 = 0)
  | .read16 off _ => off = s.platform.muxOff ∧ s.regs.muxSaved = false
  | .write16 off v _ =>
    off = s.platform.muxOff ∧
      (s.regs.muxSaved = true → v = s.regs.savedMux) ∧ (s.regs.muxSaved = false → ∃ u, v = muxValue s.platform.muxFn u)
  | .memRead addr b =>
    s.regs.seqState = .load ∧ addr = s.regs.bufBase + s.regs.cursor ∧ b = s.mem.read addr.toNat
  | .response r => r.status.code.toNat ≤ 6
  | .tick => s.nextInput = .tick

/-! ### The invariants of R41 -/

/-- The eleven items of R41, in its order. -/
structure Regs.InvariantsR41 (p : Config.Platform) (r : Regs) : Prop where
  item1 : r.flags.started = true → r.configured = true ∧ r.detached = false
  item2 : r.configured = true →
    r.muxSaved = true ∧ 2 ≤ r.frequency.toNat ∧ r.frequency.toNat % 2 = 0 ∧ r.frequency.toNat ≤ p.inputFreq / 2 ∧
      r.reloadValue.toNat = 0xFFFFFFFF - (p.inputFreq / r.frequency.toNat - 1)
  item3 : r.configured = false → r.frequency = 0 ∧ r.reloadValue = 0 ∧ r.matchValue = 0
  item4 : r.active = true → r.seqState ≠ .idle ∧ r.detached = false
  item5 : r.seqState ≠ .idle → r.detached = false ∧ r.cursor ≤ r.bufLen ∧ r.bufBase.toNat + r.bufLen.toNat ≤ 2 ^ 32
  item6 : r.seqState = .load → r.cursor < r.bufLen
  item7 : r.seqState = .idle → r.active = false
  item8 : r.matchValue ≠ 0 → r.configured = true
  item9 : p.prescaleMode = .merge →
    r.flags.autoreload = true ∧ (r.flags.prescaleEnable = false → r.flags.prescaleRatio = 0)
  item10 : r.sleepCnt ≤ r.interval
  item11 : (r.seqState = .idle → r.pbErr = none ∧ r.sleepCnt = 0) ∧ (r.pbErr ≠ none → r.seqState = .check) ∧
    (r.sleepCnt ≠ 0 → r.seqState = .sleep)

/-- What every step keeps: R11's constraints, R41's items, that a sample being slept on is one of the buffer (which
item 5 needs to be kept by seq_advance), and the canonical form of the sample memory. -/
structure State.Inv (s : State) : Prop where
  platform : s.platform.Valid
  items : s.regs.InvariantsR41 s.platform
  sleeping : s.regs.seqState = .sleep → s.regs.cursor < s.regs.bufLen
  memory : s.mem.wf

/-! ### Sessions -/

/-- What a seq_load leaves that records the error `e` (R212): the input taken, `n` answers used, the error recorded in the
registers `r` that the operations before it committed, and the sample read followed by the events `es`. -/
def failedLoad (s : State) (n : Nat) (r : Regs) (e : ErrorKind) (es : List Event) : State :=
  let addr := s.regs.bufBase + s.regs.cursor
  { s with
    inputs := s.inputs.drop 1
    inputNo := s.inputNo + 1
    regs := { r with pbErr := some e, seqState := .check }
    answers := s.answers.drop n
    answerNo := s.answerNo + n
    trace := s.trace ++ .memRead addr (s.mem.read addr.toNat) :: es }

/-- What a session's exit leaves whose op_turn_off failed (R211): the input taken, `n` answers used, the session ended in
the registers `r` that op_turn_off left, the events `es`, and the response with the error `e`. -/
def failedExit (s : State) (n : Nat) (r : Regs) (e : ErrorKind) (es : List Event) : State :=
  { s with
    inputs := s.inputs.drop 1
    inputNo := s.inputNo + 1
    regs := { r with active := false, pbErr := none, seqState := .idle }
    answers := s.answers.drop n
    answerNo := s.answerNo + n
    trace := s.trace ++ es ++ [.response ⟨0x10, .error e, s.regs.cursor⟩] }

/-- The inputs of one iteration of a session (R215): seq_check, seq_load, `interval` ticks, seq_advance. -/
def iterationInputs (interval : Nat) : List Config.Input :=
  [.sequencer, .sequencer] ++ List.replicate interval .tick ++ [.sequencer]

/-- The inputs of a session of `n` samples that is neither stopped nor failed (R215). -/
def sessionInputs (interval : Nat) : Nat → List Config.Input
  | 0 => [.sequencer]
  | n + 1 => iterationInputs interval ++ sessionInputs interval n

/-- The addresses and bytes of the sample reads of a trace, in order. -/
def sampleReads : List Event → List (Word × Byte)
  | [] => []
  | .memRead a b :: es => (a, b) :: sampleReads es
  | .write32 _ _ _ :: es => sampleReads es
  | .read16 _ _ :: es => sampleReads es
  | .write16 _ _ _ :: es => sampleReads es
  | .response _ :: es => sampleReads es
  | .tick :: es => sampleReads es

/-- How many transitions of the sequencer and counted ticks a stopped session still needs at most (R217). -/
def drainLeft (r : Regs) : Nat :=
  match r.seqState with
  | .idle => 0
  | .check => 1
  | .sleep => r.sleepCnt.toNat + 2
  | .load => r.interval.toNat + 3

end Sys2Proof.Machine
end

