-- ==== Sys2Proof/Certificates/Slice0/Obligations.lean ====
section
/-! DEFINITION. Obligations.lean: the statements for the provers. A statement of a command's effect is an equation for
the whole next state, so its frame (every register, the memory, the platform, the inputs left) is part of it. -/

open Sys2Proof Sys2Proof.Machine Sys2Proof.Config

/-! ### Encoding (spec/30_encoding.md) -/

/-- Decode and encode agree on every well-formed command, with every operand value the encoding admits. -/
def Obligations.DecodeOfEncode : Prop :=
  ∀ i : Instr, i.WellFormed = true → decode (encode i) = .ok i

/-- The decoder is injective: a legal word is the encoding of the one well-formed command it decodes to. -/
def Obligations.EncodeOfDecode : Prop :=
  ∀ (w : CommandWord) (i : Instr), decode w = .ok i → i.WellFormed = true ∧ encode i = w

/-- R97: a word is legal exactly when it matches exactly one row of the table, and it then decodes to that row's
command. -/
def Obligations.LegalWordsAreTheRowsOfTheTable : Prop :=
  ∀ w : CommandWord,
    ((∃ i, decode w = .ok i) ↔ ∃! row, row ∈ opcodeRows ∧ w &&& row.mask = row.fixed) ∧
    ∀ row ∈ opcodeRows, w &&& row.mask = row.fixed ↔ ∃ i, decode w = .ok i ∧ mnemonic i = row.name

/-- The example words of commands and responses, which spec/30_encoding.md infers from R91, R97, R100 and R101 ("Encoding
examples, each a text line and its command word"). -/
def Obligations.SpecExampleWords : Prop :=
  decode 0x01000000000000000000000000000400 = .ok (.cfgfreq 1024) ∧
  decode 0x010000000000000000000000FFFFFFFF = .ok (.cfgfreq (asU32 (-1))) ∧
  decode 0x02000000000000000000000000000032 = .ok (.setduty 50) ∧
  decode 0x03000000000000000000000000000000 = .ok .on ∧
  decode 0x04000000000000000000000000000000 = .ok .off ∧
  decode 0x05000000000000000000000000000001 = .ok (.setpol 1) ∧
  decode 0x06000000000000000000000000000008 = .ok (.setpre 8) ∧
  decode 0x07000000000000000000000000000000 = .ok .getduty ∧
  decode 0x08000000000000000000000000000000 = .ok .getfreq ∧
  decode 0x10000000000000010000000300001000 = .ok (.pbstart 0x1000 3 1) ∧
  decode 0x11000000000000000000000000000000 = .ok .pbstop ∧
  decode 0x12000000000000000000000000000000 = .ok .pbsync ∧
  decode 0x13000000000000000000000000000000 = .ok .pbpos ∧
  decode 0x20000000000000000000000000000000 = .ok .detach ∧
  Response.word ⟨0x07, .ok, 50⟩ = 0x070000000032 ∧
  Response.word ⟨0x07, .error .stateError, 0⟩ = 0x070400000000 ∧
  Response.word ⟨0x10, .ok, 3⟩ = 0x100000000003 ∧
  (∃ e, decode 0x05000000000000000000000000000002 = .error e) ∧
  Response.word ⟨cmdOp 0x05000000000000000000000000000002, .error .illegalCommand, 0⟩ = 0x050600000000

/-- R100 and R101: the three fields of every response word, the code of each of the seven statuses, and that no code
above 6 exists. -/
def Obligations.ResponseWordFields : Prop :=
  (∀ r : Response, r.word.extractLsb' 40 8 = r.op ∧ r.word.extractLsb' 32 8 = r.status.code ∧
    r.word.extractLsb' 0 32 = r.value) ∧
  Status.ok.code = 0x00 ∧ (Status.error .configError).code = 0x01 ∧ (Status.error .ioError).code = 0x02 ∧
  (Status.error .busyError).code = 0x03 ∧ (Status.error .stateError).code = 0x04 ∧
  (Status.error .cancelledError).code = 0x05 ∧ (Status.error .illegalCommand).code = 0x06 ∧
  ∀ st : Status, st.code.toNat ≤ 6

/-- R98: which words are illegal, and that an illegal word has no effect but its response, in every state. -/
def Obligations.IllegalWordIsOnlyAnswered : Prop :=
  (∀ w : CommandWord, (∃ e, decode w = .error e) ↔
    (cmdOp w ∉ ([0x01, 0x02, 0x03, 0x04, 0x05, 0x06, 0x07, 0x08, 0x10, 0x11, 0x12, 0x13, 0x20] : List (BitVec 8)) ∨
     cmdRsv w ≠ 0 ∨
     (cmdOp w ≠ 0x10 ∧ (cmdC w ≠ 0 ∨ cmdB w ≠ 0)) ∨
     (cmdOp w ∉ ([0x01, 0x02, 0x05, 0x06, 0x10] : List (BitVec 8)) ∧ cmdA w ≠ 0) ∨
     (cmdOp w = 0x05 ∧ 1 < (cmdA w).toNat))) ∧
  ∀ (s : State) (w : CommandWord) (withdrawn : Bool) (e : Illegal),
    s.nextInput = .command w withdrawn → decode w = .error e →
    step s = .next { s with
      inputs := s.inputs.drop 1
      inputNo := s.inputNo + 1
      trace := s.trace ++ [.response ⟨w.extractLsb' 120 8, .error .illegalCommand, 0⟩] }

/-! ### One step (spec/43_concurrency_guard.md) -/

/-- A step runs the decoded command: a legal word that is not a withdrawn CFG command is executed, on the state with
the input taken. MODEL'S CHOICE (log 21): a PB or LIFE command is executed also where the withdrawal bit is presented with
it; the spec says only that such a command cannot be withdrawn (R244). -/
def Obligations.StepRunsTheDecodedCommand : Prop :=
  ∀ (s : State) (w : CommandWord) (withdrawn : Bool) (i : Instr),
    s.nextInput = .command w withdrawn → decode w = .ok i → (withdrawn = false ∨ classOf i ≠ .cfg) →
    i.WellFormed = true ∧
    step s = exec i { s with inputs := s.inputs.drop 1, inputNo := s.inputNo + 1 }

/-- R264: a withdrawn CFG-class command is answered CancelledError, with no access and no state change; and which of the
thirteen commands are of class CFG, which of class PB, and which of class LIFE (R96). -/
def Obligations.WithdrawnCommandIsOnlyAnswered : Prop :=
  (∀ a : Word, ∀ i ∈ ([.cfgfreq a, .setduty a, .on, .off, .setpol a, .setpre a, .getduty, .getfreq] : List Instr),
    classOf i = .cfg) ∧
  (∀ a b c : Word, ∀ i ∈ ([.pbstart a b c, .pbstop, .pbsync, .pbpos] : List Instr), classOf i = .pb) ∧
  classOf .detach = .life ∧
  ErrorKind.cancelledError.code = 0x05 ∧
  ∀ (s : State) (w : CommandWord) (i : Instr),
    s.nextInput = .command w true → decode w = .ok i → classOf i = .cfg →
    step s = .next { s with
      inputs := s.inputs.drop 1
      inputNo := s.inputNo + 1
      trace := s.trace ++ [.response ⟨i.opcode, .error .cancelledError, 0⟩] }

/-! ### The timer register model (spec/40_timer_register_model.md) -/

/-- R121: the clamp's order of steps, the range of its result, when it is 0 and what configure_frequency answers then, and
the examples. -/
def Obligations.ClampedFrequencyIsEvenAndCapped : Prop :=
  (∀ (p : Platform) (req : Int), p.Valid →
    let f0 := if req ≤ 0 then p.defaultFreq.toInt else req
    let f1 := min f0 ((p.inputFreq / 2 : Nat) : Int)
    clampFreq p req = f1 - f1 % 2 ∧
    clampFreq p req % 2 = 0 ∧ 0 ≤ clampFreq p req ∧ clampFreq p req ≤ ((p.inputFreq / 2 : Nat) : Int) ∧
    (clampFreq p req = 0 ↔ f1 = 1) ∧
    (clampFreq p req = 0 ↔ req = 1 ∨ (req ≤ 0 ∧ p.defaultFreq.toInt = 1))) ∧
  (∀ (s : State) (req : Int), clampFreq s.platform req = 0 → opConfigureFrequency req s = .raised .configError s) ∧
  ∀ p : Platform, p.inputFreq = 32768 → p.defaultFreq = 1024 →
    ∀ x ∈ ([(1024, 1024), (1025, 1024), (3, 2), (2, 2), (1, 0), (0, 1024), (-5, 1024), (16384, 16384), (16385, 16384),
      (100000, 16384), (2147483647, 16384)] : List (Int × Int)), clampFreq p x.1 = x.2

/-- The range of the reload value for every frequency the clamp can give, which spec/40_timer_register_model.md infers
("the quotient `q` satisfies `2 ≤ q ≤ INPUT_FREQ div 2`"), and the value of num_counts. -/
def Obligations.ReloadAndCountsRange : Prop :=
  (∀ reload : Int, numCounts reload = 0xFFFFFFFE - reload) ∧
  (∀ f inp : Int, 4 ≤ inp → inp ≤ 2 ^ 31 - 1 → 2 ≤ f → f ≤ inp / 2 →
    let q := inp / f
    let r := computeReload f inp
    2 ≤ q ∧ q ≤ inp / 2 ∧ 0xFFFFFFFF - (inp / 2 - 1) ≤ r ∧ r ≤ 0xFFFFFFFE ∧ 2 ^ 31 < r ∧ zext32 (asU32 r) = r ∧
    (r = 0xFFFFFFFE ↔ q = 2) ∧ (q = 2 ↔ inp / 3 < f) ∧
    numCounts r = q - 2 ∧ 0 ≤ numCounts r ∧ numCounts r ≤ inp / 2 - 2) ∧
  numCounts 0xFFFFFFE0 = 30

/-- R126 and R127: the clamp, and the match value of a nonzero percentage, whose offset is floor(p*n/100), or 1 exactly
where p*n is below 100; percentage 0 gives no match write. That the match value lies inside the period is what
spec/40_timer_register_model.md infers ("the result `m` satisfies `reload + 1 ≤ m ≤ reload + n = MAXU32 − 1`"). -/
def Obligations.MatchLiesInsideThePeriod : Prop :=
  (∀ x lo hi : Int, lo ≤ hi → clamp x lo hi = max lo (min x hi)) ∧
  (∀ reload n : Int, computeMatch 0 reload n = none) ∧
  (∀ p reload n : Int, 1 ≤ p → p ≤ 100 → 1 ≤ n →
    computeMatch p reload n = some (reload + clamp (p * n / 100) 1 n) ∧
    clamp (p * n / 100) 1 n = (if p * n < 100 then 1 else p * n / 100) ∧
    p * n / 100 ≤ n ∧ (p * n / 100 < 1 ↔ p * n < 100)) ∧
  ∀ p reload : Int, 1 ≤ p → p ≤ 100 → 0 ≤ reload → 1 ≤ numCounts reload →
    ∃ m, computeMatch p reload (numCounts reload) = some m ∧
      reload + 1 ≤ m ∧ m ≤ reload + numCounts reload ∧ reload + numCounts reload = 0xFFFFFFFF - 1 ∧
      zext32 (asU32 m) = m

/-- R129: the duty cycle read back lies in 0 to 100; it is not the inverse of the match computation. -/
def Obligations.DutyReadBackRange : Prop :=
  (∀ mtch reload : Int, reload < mtch → mtch ≤ 0xFFFFFFFE →
    1 ≤ numCounts reload ∧ 1 ≤ mtch - reload ∧ mtch - reload ≤ numCounts reload ∧
    dutyOf mtch reload = 100 * (mtch - reload) / numCounts reload ∧
    0 ≤ dutyOf mtch reload ∧ dutyOf mtch reload ≤ 100) ∧
  computeMatch 99 0xFFFFFFE0 30 = some 0xFFFFFFFD ∧ dutyOf 0xFFFFFFFD 0xFFFFFFE0 = 96 ∧
  computeMatch 1 0xFFFFFFE0 30 = some 0xFFFFFFE1 ∧ dutyOf 0xFFFFFFE1 0xFFFFFFE0 = 3 ∧
  ∀ reload : Int, numCounts reload = 101 → dutyOf (reload + 1) reload = 0

/-- R130: the duty cycle of every sample byte. -/
def Obligations.SampleDutyRange : Prop :=
  (∀ b : Byte, dutyFromSample b = ((b.toNat * 100 / 256 : Nat) : Int) ∧
    0 ≤ dutyFromSample b ∧ dutyFromSample b ≤ 99 ∧ b.toNat * 100 ≤ 25500) ∧
  (∀ b ∈ ([0, 1, 2] : List Byte), dutyFromSample b = 0) ∧ (∀ b ∈ ([3, 4, 5] : List Byte), dutyFromSample b = 1) ∧
  dutyFromSample 128 = 50 ∧ dutyFromSample 255 = 99

/-- R132: repeated halving, its result the position of the highest set bit, and what SETPRE makes of it. -/
def Obligations.LogIsTheHighestBit : Prop :=
  (log2Floor 1 = 0 ∧ ∀ d : Nat, 2 ≤ d → d < 2 ^ 32 → log2Floor d = log2Floor (d / 2) + 1) ∧
  (∀ (d : Int) (s : State), (d < 1 ∨ 7 < log2Floor d.toNat) → bodySetpre d s = .raised .configError s) ∧
  (∀ d : Nat, 1 ≤ d → d < 2 ^ 32 → 2 ^ log2Floor d ≤ d ∧ d < 2 ^ (log2Floor d + 1)) ∧
  ∀ x ∈ ([(1, 0), (2, 1), (3, 1), (4, 2), (7, 2), (8, 3), (255, 7), (256, 8)] : List (Nat × Nat)), log2Floor x.1 = x.2

/-- R31's layout: the place of every flag in the control word, every other bit 0, and the examples. -/
def Obligations.ControlWordLayout : Prop :=
  (∀ f : Flags, (ctrlWord f).getLsbD 0 = f.started ∧ (ctrlWord f).getLsbD 1 = f.autoreload ∧
    (ctrlWord f).extractLsb' 2 3 = f.prescaleRatio ∧ (ctrlWord f).getLsbD 5 = f.prescaleEnable ∧
    (ctrlWord f).getLsbD 6 = false ∧ (ctrlWord f).getLsbD 7 = f.polarity ∧ (ctrlWord f).extractLsb' 8 24 = 0) ∧
  ctrlWord Regs.reset.flags = 0x00000002 ∧ ctrlWord Regs.reset.flags.start = 0x00000003 ∧
  ctrlWord ⟨true, true, true, true, 3⟩ = 0x000000AF

/-- The formula and the source's literal example, which spec/40_timer_register_model.md finds true of its rules
("Implementation must reproduce these literal values."). -/
def Obligations.SourceExampleValues : Prop :=
  (∀ f inp : Int, 0 < f → f ≤ inp / 2 → f % 2 = 0 → computeReload f inp = 0xFFFFFFFF - (inp / f - 1)) ∧
  computeReload 1024 32768 = 0xFFFFFFE0 ∧ numCounts 0xFFFFFFE0 = 30 ∧
  computeMatch 50 0xFFFFFFE0 30 = some 0xFFFFFFEF

/-! ### Where each command completes (spec/41_pwm_controller.md, spec/42_playback_engine.md) -/

/-- CFGFREQ completes: reload and counter are written, the shadows follow, the match and the flags stay. -/
def Obligations.CfgfreqCompletes : Prop :=
  ∀ (s : State) (a : Word),
    let f := clampFreq s.platform a.toInt
    let r := asU32 (computeReload f s.platform.inputFreq)
    s.regs.detached = false → f ≠ 0 → s.accepts (muxAnswers s + 2) →
    exec (.cfgfreq a) s = .next { s with
      regs := { muxRegs s with reloadValue := r, frequency := asU32 f, configured := true }
      answers := s.answers.drop (muxAnswers s + 2)
      answerNo := s.answerNo + (muxAnswers s + 2)
      trace := s.trace ++ muxEvents s ++
        [.write32 (regAddr s.platform .reload) r true, .write32 (regAddr s.platform .counter) r true,
         .response ⟨0x01, .ok, 0⟩] }

/-- SETDUTY with a nonzero percentage completes: forced OFF, one match write, back ON, in that order. -/
def Obligations.SetdutyNonzeroCompletes : Prop :=
  ∀ (s : State) (a : Word) (m : Int),
    s.regs.detached = false → 1 ≤ a.toInt → a.toInt ≤ 100 → s.regs.configured = true →
    s.regs.reloadValue ≠ 0xFFFFFFFE →
    computeMatch a.toInt s.regs.reloadValue.toNat (numCounts s.regs.reloadValue.toNat) = some m →
    s.accepts (muxAnswers s + 3) →
    exec (.setduty a) s = .next { s with
      regs := { muxRegs s with matchValue := asU32 m, flags := { s.regs.flags with started := true } }
      answers := s.answers.drop (muxAnswers s + 3)
      answerNo := s.answerNo + (muxAnswers s + 3)
      trace := s.trace ++ muxEvents s ++
        [.write32 (regAddr s.platform .ctrl) (ctrlWord { s.regs.flags with started := false }) true,
         .write32 (regAddr s.platform .matchReg) (asU32 m) true,
         .write32 (regAddr s.platform .ctrl) (ctrlWord { s.regs.flags with started := true }) true,
         .response ⟨0x02, .ok, 0⟩] }

/-- SETDUTY 0 completes in every controller state but DETACHED: one control write, no match write. -/
def Obligations.SetdutyZeroCompletes : Prop :=
  ∀ s : State, s.regs.detached = false → s.accepts (muxAnswers s + 1) →
    exec (.setduty 0) s = .next { s with
      regs := { muxRegs s with flags := { s.regs.flags with started := false } }
      answers := s.answers.drop (muxAnswers s + 1)
      answerNo := s.answerNo + (muxAnswers s + 1)
      trace := s.trace ++ muxEvents s ++
        [.write32 (regAddr s.platform .ctrl) (ctrlWord { s.regs.flags with started := false }) true,
         .response ⟨0x02, .ok, 0⟩] }

/-- ON completes: the old match value and the control word are written. -/
def Obligations.OnCompletes : Prop :=
  ∀ s : State, s.regs.detached = false → s.regs.configured = true →
    s.regs.reloadValue.toNat < s.regs.matchValue.toNat → s.regs.matchValue.toNat ≤ 0xFFFFFFFE →
    s.accepts (muxAnswers s + 2) →
    exec .on s = .next { s with
      regs := { muxRegs s with flags := { s.regs.flags with started := true } }
      answers := s.answers.drop (muxAnswers s + 2)
      answerNo := s.answerNo + (muxAnswers s + 2)
      trace := s.trace ++ muxEvents s ++
        [.write32 (regAddr s.platform .matchReg) s.regs.matchValue true,
         .write32 (regAddr s.platform .ctrl) (ctrlWord { s.regs.flags with started := true }) true,
         .response ⟨0x03, .ok, 0⟩] }

/-- OFF completes in every controller state but DETACHED, and always writes the control word. -/
def Obligations.OffCompletes : Prop :=
  ∀ s : State, s.regs.detached = false → s.accepts (muxAnswers s + 1) →
    exec .off s = .next { s with
      regs := { muxRegs s with flags := { s.regs.flags with started := false } }
      answers := s.answers.drop (muxAnswers s + 1)
      answerNo := s.answerNo + (muxAnswers s + 1)
      trace := s.trace ++ muxEvents s ++
        [.write32 (regAddr s.platform .ctrl) (ctrlWord { s.regs.flags with started := false }) true,
         .response ⟨0x04, .ok, 0⟩] }

/-- SETPOL completes: only the polarity flag changes, and the started flag is written unchanged. -/
def Obligations.SetpolCompletes : Prop :=
  ∀ (s : State) (activeHigh : Bool), s.regs.detached = false → s.accepts (muxAnswers s + 1) →
    exec (.setpol (if activeHigh then 1 else 0)) s = .next { s with
      regs := { muxRegs s with flags := { s.regs.flags with polarity := activeHigh } }
      answers := s.answers.drop (muxAnswers s + 1)
      answerNo := s.answerNo + (muxAnswers s + 1)
      trace := s.trace ++ muxEvents s ++
        [.write32 (regAddr s.platform .ctrl) (ctrlWord { s.regs.flags with polarity := activeHigh }) true,
         .response ⟨0x05, .ok, 0⟩] }

/-- SETPRE completes for the divisors 1 to 255, in both modes of PRESCALE_MODE (R165, R166). -/
def Obligations.SetpreCompletes : Prop :=
  ∀ (s : State) (a : Word) (f : Flags),
    s.regs.detached = false → 1 ≤ a.toInt → a.toInt ≤ 255 → s.accepts (muxAnswers s + 1) →
    (s.platform.prescaleMode = .merge → f = { s.regs.flags with
      prescaleEnable := decide (2 ≤ a.toInt), prescaleRatio := BitVec.ofNat 3 (Nat.log2 a.toNat) }) →
    (s.platform.prescaleMode = .refClear → f = {
      started := false
      polarity := false
      autoreload := false
      prescaleEnable := false
      prescaleRatio := BitVec.ofNat 3 (Nat.log2 a.toNat) }) →
    exec (.setpre a) s = .next { s with
      regs := { muxRegs s with flags := f }
      answers := s.answers.drop (muxAnswers s + 1)
      answerNo := s.answerNo + (muxAnswers s + 1)
      trace := s.trace ++ muxEvents s ++
        [.write32 (regAddr s.platform .ctrl) (ctrlWord f) true, .response ⟨0x06, .ok, 0⟩] }

/-- GETDUTY completes on a channel that is ON with the match in range: floor(100*(match − reload)/num_counts), and
nothing but the response. -/
def Obligations.GetdutyCompletes : Prop :=
  ∀ s : State, s.regs.detached = false → s.regs.flags.started = true →
    s.regs.reloadValue.toNat < s.regs.matchValue.toNat → s.regs.matchValue.toNat ≤ 0xFFFFFFFE →
    exec .getduty s = .next { s with
      trace := s.trace ++ [.response ⟨0x07, .ok, BitVec.ofNat 32
        (100 * (s.regs.matchValue.toNat - s.regs.reloadValue.toNat) / (0xFFFFFFFE - s.regs.reloadValue.toNat))⟩] }

/-- GETFREQ and PBPOS complete: the frequency, the cursor, and nothing but the response. -/
def Obligations.GetfreqAndPbposComplete : Prop :=
  ∀ s : State, s.regs.detached = false →
    exec .getfreq s = .next { s with trace := s.trace ++ [.response ⟨0x08, .ok, s.regs.frequency⟩] } ∧
    exec .pbpos s = .next { s with trace := s.trace ++ [.response ⟨0x13, .ok, s.regs.cursor⟩] }

/-- DETACH completes outside a session: it stops the signal if it runs, restores the mux if it was saved, and moves to
DETACHED. -/
def Obligations.DetachCompletes : Prop :=
  ∀ (s : State) (stop restore : List Event),
    s.regs.detached = false → s.regs.active = false → s.regs.seqState = .idle →
    stop = (if s.regs.flags.started then
      [.write32 (regAddr s.platform .ctrl) (ctrlWord { s.regs.flags with started := false }) true] else []) →
    restore = (if s.regs.muxSaved then [.write16 s.platform.muxOff s.regs.savedMux true] else []) →
    s.accepts (stop.length + restore.length) →
    exec .detach s = .next { s with
      regs := { s.regs with flags := { s.regs.flags with started := false }, detached := true }
      answers := s.answers.drop (stop.length + restore.length)
      answerNo := s.answerNo + (stop.length + restore.length)
      trace := s.trace ++ stop ++ restore ++ [.response ⟨0x20, .ok, 0⟩] }

/-- PBSTART is accepted when no session is active or draining and the buffer does not wrap: the session registers are
written, with no access and no response yet. -/
def Obligations.PbstartCompletes : Prop :=
  ∀ (s : State) (a b c : Word),
    s.regs.detached = false → s.regs.active = false → s.regs.seqState = .idle → a.toNat + b.toNat ≤ 2 ^ 32 →
    exec (.pbstart a b c) s = .next { s with
      regs := { s.regs with
        active := true
        cursor := 0
        bufBase := a
        bufLen := b
        interval := c
        sleepCnt := 0
        pbErr := none
        seqState := .check } }

/-- PBSTOP and PBSYNC complete: a no-op with no session, else the channel is turned OFF and `active` cleared; the
sequencer's own registers stay. That the no-op holds also where the channel is ON is the model's reading (log 12): it
follows R203's body and its corner cases against R204's sentence that `flags.started = 0` when the OK response is
emitted. -/
def Obligations.PbstopAndPbsyncComplete : Prop :=
  ∀ (s : State) (i : Instr) (op : BitVec 8), (i = .pbstop ∧ op = 0x11) ∨ (i = .pbsync ∧ op = 0x12) →
    s.regs.detached = false →
    (s.regs.active = false → exec i s = .next { s with trace := s.trace ++ [.response ⟨op, .ok, 0⟩] }) ∧
    (s.regs.active = true → s.accepts (muxAnswers s + 1) →
      exec i s = .next { s with
        regs := { muxRegs s with flags := { s.regs.flags with started := false }, active := false }
        answers := s.answers.drop (muxAnswers s + 1)
        answerNo := s.answerNo + (muxAnswers s + 1)
        trace := s.trace ++ muxEvents s ++
          [.write32 (regAddr s.platform .ctrl) (ctrlWord { s.regs.flags with started := false }) true,
           .response ⟨op, .ok, 0⟩] })

/-! ### Where a command is refused or fails (spec/60_exceptions.md) -/

/-- DETACHED answers every command StateError and nothing else, but a withdrawn CFG command CancelledError; the sequencer
is idle there, so no internal transition is enabled; only attach leaves it (R171). MODEL'S CHOICE (log 18): the sequencer's
turn, an input that the spec does not have where nothing is enabled, changes nothing. -/
def Obligations.DetachedIsTerminal : Prop :=
  (∀ (i : Instr) (s : State), s.regs.detached = true →
    exec i s = .next { s with trace := s.trace ++ [.response ⟨i.opcode, .error .stateError, 0⟩] }) ∧
  (∀ s : State, s.Inv → s.regs.detached = true → s.regs.seqState = .idle ∧ s.regs.active = false) ∧
  (∀ s : State, s.Inv → s.regs.detached = true → s.nextInput = .sequencer →
    step s = .next { s with inputs := s.inputs.drop 1, inputNo := s.inputNo + 1 }) ∧
  (∀ (s : State) (w : CommandWord) (i : Instr), s.regs.detached = true → s.nextInput = .command w true →
    decode w = .ok i → classOf i = .cfg → step s = .next { s with
      inputs := s.inputs.drop 1
      inputNo := s.inputNo + 1
      trace := s.trace ++ [.response ⟨i.opcode, .error .cancelledError, 0⟩] }) ∧
  ∀ s t : State, step s = .next t → s.regs.detached = true → s.nextInput ≠ .attach → t.regs.detached = true

/-- R266, steps 3 and 4 behind it: a failing precondition is answered with its error, in the order of the tests, with
no access and no state change. -/
def Obligations.PreconditionsComeFirst : Prop :=
  ∀ (i : Instr) (s : State) (e : ErrorKind), s.regs.detached = false → preconditionError s i = some e →
    exec i s = .next { s with trace := s.trace ++ [.response ⟨i.opcode, .error e, 0⟩] }

/-- An enable_mux that fails half way commits nothing, and the operation answers IOError (R152). The value it writes is
MUXFN of the value read, and every function of 16 bits is the MUXFN of some table (R11, log 5). -/
def Obligations.FailedMuxSaveCommitsNothing : Prop :=
  (∀ g : Half → Half, ∃ m : MuxFn, ∀ v, muxValue m v = g v) ∧
  ∀ (i : Instr) (s : State), s.regs.detached = false → preconditionError s i = none → runsEnableMux s i = true →
    s.regs.muxSaved = false →
    (s.answer 0 = .failed → exec i s = .next { s with
      answers := s.answers.drop 1
      answerNo := s.answerNo + 1
      trace := s.trace ++ [.read16 s.platform.muxOff none, .response ⟨i.opcode, .error .ioError, 0⟩] }) ∧
    ∀ v, s.answer 0 = .done v → s.answer 1 = .failed → exec i s = .next { s with
      answers := s.answers.drop 2
      answerNo := s.answerNo + 2
      trace := s.trace ++ [.read16 s.platform.muxOff (some v),
        .write16 s.platform.muxOff (muxValue s.platform.muxFn v) false, .response ⟨i.opcode, .error .ioError, 0⟩] }

/-- Errors are precise (R272): a command that answers an error leaves the block's registers as they were, except a
completed enable_mux before an IOError; only an IOError has accesses behind it, and they stop at the one that failed. -/
def Obligations.ErrorsAreAtomic : Prop :=
  ∀ (i : Instr) (s t : State) (es : List Event) (e : ErrorKind) (v : Word),
    exec i s = .next t → t.trace = s.trace ++ es → es.getLast? = some (.response ⟨i.opcode, .error e, v⟩) →
    v = 0 ∧ t.mem = s.mem ∧
    (e ≠ .ioError → t.regs = s.regs ∧ es = [.response ⟨i.opcode, .error e, 0⟩] ∧ t.answerNo = s.answerNo) ∧
    (e = .ioError →
      (t.regs = s.regs ∨ (s.regs.muxSaved = false ∧ s.answer 0 = .done t.regs.savedMux ∧
        t.regs = { s.regs with muxSaved := true, savedMux := t.regs.savedMux })) ∧
      ∃ pre x, es = pre ++ [x, .response ⟨i.opcode, .error e, 0⟩] ∧ x.failed = true ∧ ∀ y ∈ pre, y.failed = false)

/-- The hazard of R313: SETDUTY whose match write fails leaves the shadows as they were while the external control
register has already been written with started = 0. -/
def Obligations.SetdutyFailingAtTheMatchWrite : Prop :=
  ∀ (s : State) (a : Word) (m : Int) (v : Half),
    s.regs.detached = false → 1 ≤ a.toInt → a.toInt ≤ 100 → s.regs.configured = true → s.regs.muxSaved = true →
    s.regs.reloadValue ≠ 0xFFFFFFFE →
    computeMatch a.toInt s.regs.reloadValue.toNat (numCounts s.regs.reloadValue.toNat) = some m →
    s.answer 0 = .done v → s.answer 1 = .failed →
    exec (.setduty a) s = .next { s with
      answers := s.answers.drop 2
      answerNo := s.answerNo + 2
      trace := s.trace ++
        [.write32 (regAddr s.platform .ctrl) (ctrlWord { s.regs.flags with started := false }) true,
         .write32 (regAddr s.platform .matchReg) (asU32 m) false, .response ⟨0x02, .error .ioError, 0⟩] }

/-- Every command gets exactly one response, as the last event of its own transition, with its own opcode; the one
exception is an accepted PBSTART, whose transition adds no event (R103). -/
def Obligations.EveryCommandIsAnsweredOnce : Prop :=
  ∀ (i : Instr) (s : State), ∃ t es, exec i s = .next t ∧ t.trace = s.trace ++ es ∧
    (((∃ a b c, i = .pbstart a b c) ∧ s.regs.detached = false ∧ preconditionError s i = none) → es = []) ∧
    (¬((∃ a b c, i = .pbstart a b c) ∧ s.regs.detached = false ∧ preconditionError s i = none) →
      es.countP Event.isResponse = 1 ∧ ∃ st v, es.getLast? = some (.response ⟨i.opcode, st, v⟩))

/-- A granted command whose preconditions hold can fail with IOError only (the rows of R268 for a command that is not
cancelled). -/
def Obligations.OnlyIoErrorAfterThePreconditions : Prop :=
  ∀ (i : Instr) (s t : State) (es : List Event) (st : Status) (v : Word),
    s.regs.detached = false → preconditionError s i = none → exec i s = .next t → t.trace = s.trace ++ es →
    es.getLast? = some (.response ⟨i.opcode, st, v⟩) → st = .ok ∨ st = .error .ioError

/-- The controller state moves, transition by transition, as the table says that spec/10_state.md infers ("The transitions
of `ctl_state`, complete"). A command that answers an error leaves it, and a command that answers OK moves it to the state
its row names; PBSTART never answers OK in its own transition, and an accepted one leaves the state. In seq_load the
frequency and the duty cycle move it one after the other, and seq_exit moves it as OFF does; every other transition but
attach leaves it. -/
def Obligations.ControllerStateMoves : Prop :=
  (∀ (i : Instr) (s t : State) (es : List Event) (st : Status) (v : Word), s.Inv →
    exec i s = .next t → t.trace = s.trace ++ es → es.getLast? = some (.response ⟨i.opcode, st, v⟩) →
    (st ≠ .ok → t.regs.ctlState = s.regs.ctlState) ∧
    (st = .ok → s.regs.ctlState ≠ .detached ∧
      match i with
      | .cfgfreq _ => t.regs.ctlState = if s.regs.ctlState = .running then .running else .configuredOff
      | .setduty a => if a = 0 then
          t.regs.ctlState = (if s.regs.ctlState = .running then .configuredOff else s.regs.ctlState)
        else s.regs.ctlState ≠ .unconfigured ∧ t.regs.ctlState = .running
      | .on => s.regs.ctlState ≠ .unconfigured ∧ t.regs.ctlState = .running
      | .off => t.regs.ctlState = if s.regs.ctlState = .running then .configuredOff else s.regs.ctlState
      | .setpol _ => t.regs.ctlState = s.regs.ctlState
      | .setpre _ => t.regs.ctlState = if s.platform.prescaleMode = .refClear ∧ s.regs.ctlState = .running
          then .configuredOff else s.regs.ctlState
      | .getduty => t.regs.ctlState = s.regs.ctlState
      | .getfreq => t.regs.ctlState = s.regs.ctlState
      | .pbstart _ _ _ => False
      | .pbstop => t.regs.ctlState = if s.regs.active = true ∧ s.regs.ctlState = .running
          then .configuredOff else s.regs.ctlState
      | .pbsync => t.regs.ctlState = if s.regs.active = true ∧ s.regs.ctlState = .running
          then .configuredOff else s.regs.ctlState
      | .pbpos => t.regs.ctlState = s.regs.ctlState
      | .detach => t.regs.ctlState = .detached)) ∧
  (∀ (s t : State) (a b c : Word), s.regs.detached = false → preconditionError s (.pbstart a b c) = none →
    exec (.pbstart a b c) s = .next t → t.regs.ctlState = s.regs.ctlState) ∧
  (∀ s t : State, s.Inv → s.nextInput = .sequencer → step s = .next t →
    match s.regs.seqState with
    | .idle => t.regs.ctlState = s.regs.ctlState
    | .check => t.regs.ctlState =
        if t.regs.seqState = .idle ∧ s.accepts (muxAnswers s + 1) ∧ s.regs.ctlState = .running
        then .configuredOff else s.regs.ctlState
    | .load =>
      (t.regs.seqState = .sleep → t.regs.ctlState =
        if dutyFromSample (s.mem.read (s.regs.bufBase + s.regs.cursor).toNat) = 0 then .configuredOff else .running) ∧
      (t.regs.seqState ≠ .sleep → t.regs.ctlState =
        if clampFreq s.platform s.platform.baseClock.toInt ≠ 0 ∧ s.accepts (muxAnswers s + 2) ∧
          s.regs.ctlState = .unconfigured then .configuredOff else s.regs.ctlState)
    | .sleep => t.regs.ctlState = s.regs.ctlState) ∧
  ∀ s t : State, step s = .next t →
    (s.nextInput = .attach → t.regs.ctlState = .unconfigured) ∧
    (s.nextInput = .tick ∨ (∃ a b, s.nextInput = .hostStore a b) → t.regs.ctlState = s.regs.ctlState)

/-! ### The sequencer (spec/42_playback_engine.md) -/

/-- seq_check goes on to S_LOAD when no exit condition holds, with no access (R210). -/
def Obligations.SeqCheckGoesOn : Prop :=
  ∀ s : State, s.nextInput = .sequencer → s.regs.seqState = .check → s.regs.pbErr = none → s.regs.active = true →
    s.regs.cursor ≠ s.regs.bufLen →
    step s = .next { s with
      inputs := s.inputs.drop 1
      inputNo := s.inputNo + 1
      regs := { s.regs with seqState := .load } }

/-- seq_check exits on an error, a stop or the end of the buffer: the channel is turned OFF, the session ends, and the
deferred PBSTART response carries the session's status and the cursor (R210, R211). -/
def Obligations.SeqExitEndsTheSession : Prop :=
  ∀ (s : State) (st : Status), s.nextInput = .sequencer → s.regs.seqState = .check →
    (s.regs.pbErr ≠ none ∨ s.regs.active = false ∨ s.regs.cursor = s.regs.bufLen) →
    (s.regs.pbErr = none → st = .ok) → (∀ e, s.regs.pbErr = some e → st = .error e) →
    s.accepts (muxAnswers s + 1) →
    step s = .next { s with
      inputs := s.inputs.drop 1
      inputNo := s.inputNo + 1
      regs := { muxRegs s with
        flags := { s.regs.flags with started := false }
        active := false
        pbErr := none
        seqState := .idle }
      answers := s.answers.drop (muxAnswers s + 1)
      answerNo := s.answerNo + (muxAnswers s + 1)
      trace := s.trace ++ muxEvents s ++
        [.write32 (regAddr s.platform .ctrl) (ctrlWord { s.regs.flags with started := false }) true,
         .response ⟨0x10, st, s.regs.cursor⟩] }

/-- An exit whose op_turn_off fails still ends the session, keeps the started flag, and answers IOError unless an earlier
error is reported (R211, and the hazard of R318): at the control write, with the mux saved before or in this exit, at the
mux read, or at the mux write. -/
def Obligations.FailingExitStillEndsTheSession : Prop :=
  ∀ (s : State) (e : ErrorKind), s.nextInput = .sequencer → s.regs.seqState = .check →
    (s.regs.pbErr ≠ none ∨ s.regs.active = false ∨ s.regs.cursor = s.regs.bufLen) →
    (s.regs.pbErr = none → e = .ioError) → (∀ e', s.regs.pbErr = some e' → e = e') →
    (s.accepts (muxAnswers s) → s.answer (muxAnswers s) = .failed →
      step s = .next (failedExit s (muxAnswers s + 1) (muxRegs s) e (muxEvents s ++
        [.write32 (regAddr s.platform .ctrl) (ctrlWord { s.regs.flags with started := false }) false]))) ∧
    (s.regs.muxSaved = false → s.answer 0 = .failed →
      step s = .next (failedExit s 1 s.regs e [.read16 s.platform.muxOff none])) ∧
    (s.regs.muxSaved = false → ∀ v, s.answer 0 = .done v → s.answer 1 = .failed →
      step s = .next (failedExit s 2 s.regs e [.read16 s.platform.muxOff (some v),
        .write16 s.platform.muxOff (muxValue s.platform.muxFn v) false]))

/-- seq_load plays one sample: the byte is read, the frequency and then the duty cycle are applied, and the sleep
begins. A sample of duty cycle 0 leaves the channel OFF (R212). -/
def Obligations.SeqLoadPlaysOneSample : Prop :=
  ∀ (s : State) (d : Int) (r : Word) (duty : List Event) (flags : Flags) (mtch : Word),
    s.nextInput = .sequencer → s.regs.seqState = .load →
    clampFreq s.platform s.platform.baseClock.toInt ≠ 0 →
    r = asU32 (computeReload (clampFreq s.platform s.platform.baseClock.toInt) s.platform.inputFreq) →
    d = dutyFromSample (s.mem.read (s.regs.bufBase + s.regs.cursor).toNat) →
    ((d = 0 ∧ flags = { s.regs.flags with started := false } ∧ mtch = s.regs.matchValue ∧ duty =
        [.write32 (regAddr s.platform .ctrl) (ctrlWord { s.regs.flags with started := false }) true]) ∨
     (d ≠ 0 ∧ r ≠ 0xFFFFFFFE ∧ flags = { s.regs.flags with started := true } ∧
        (∃ m, computeMatch d r.toNat (numCounts r.toNat) = some m ∧ mtch = asU32 m) ∧ duty =
        [.write32 (regAddr s.platform .ctrl) (ctrlWord { s.regs.flags with started := false }) true,
         .write32 (regAddr s.platform .matchReg) mtch true,
         .write32 (regAddr s.platform .ctrl) (ctrlWord { s.regs.flags with started := true }) true])) →
    s.accepts (muxAnswers s + 2 + duty.length) →
    step s = .next { s with
      inputs := s.inputs.drop 1
      inputNo := s.inputNo + 1
      regs := { muxRegs s with
        reloadValue := r
        frequency := asU32 (clampFreq s.platform s.platform.baseClock.toInt)
        configured := true
        flags := flags
        matchValue := mtch
        sleepCnt := s.regs.interval
        seqState := .sleep }
      answers := s.answers.drop (muxAnswers s + 2 + duty.length)
      answerNo := s.answerNo + (muxAnswers s + 2 + duty.length)
      trace := s.trace ++
        [.memRead (s.regs.bufBase + s.regs.cursor) (s.mem.read (s.regs.bufBase + s.regs.cursor).toNat)] ++
        muxEvents s ++
        [.write32 (regAddr s.platform .reload) r true, .write32 (regAddr s.platform .counter) r true] ++ duty }

/-- seq_load records its first error and goes back to S_CHECK without advancing the cursor (R212), at whichever point it
arises: a BASE_CLOCK that clamps to 0 fails before any register access; a failing mux read, mux write, reload write or
counter write commits nothing but a completed mux save; num_counts = 0 with a nonzero duty cycle, and a failing write of
the duty cycle's (control, match, control again), fail after the frequency has been committed and leave the match value and
the flags as they were. -/
def Obligations.SeqLoadRecordsItsError : Prop :=
  ∀ (s : State) (f d : Int) (r : Word), s.nextInput = .sequencer → s.regs.seqState = .load →
    f = clampFreq s.platform s.platform.baseClock.toInt → r = asU32 (computeReload f s.platform.inputFreq) →
    d = dutyFromSample (s.mem.read (s.regs.bufBase + s.regs.cursor).toNat) →
    let k := muxAnswers s
    let tuned : Regs := { muxRegs s with reloadValue := r, frequency := asU32 f, configured := true }
    let tuning := muxEvents s ++
      [.write32 (regAddr s.platform .reload) r true, .write32 (regAddr s.platform .counter) r true]
    let off := ctrlWord { s.regs.flags with started := false }
    let on := ctrlWord { s.regs.flags with started := true }
    (f = 0 → step s = .next (failedLoad s 0 s.regs .configError [])) ∧
    (f ≠ 0 → s.regs.muxSaved = false → s.answer 0 = .failed →
      step s = .next (failedLoad s 1 s.regs .ioError [.read16 s.platform.muxOff none])) ∧
    (f ≠ 0 → s.regs.muxSaved = false → ∀ v, s.answer 0 = .done v → s.answer 1 = .failed →
      step s = .next (failedLoad s 2 s.regs .ioError [.read16 s.platform.muxOff (some v),
        .write16 s.platform.muxOff (muxValue s.platform.muxFn v) false])) ∧
    (f ≠ 0 → s.accepts k → s.answer k = .failed →
      step s = .next (failedLoad s (k + 1) (muxRegs s) .ioError (muxEvents s ++
        [.write32 (regAddr s.platform .reload) r false]))) ∧
    (f ≠ 0 → s.accepts (k + 1) → s.answer (k + 1) = .failed →
      step s = .next (failedLoad s (k + 2) (muxRegs s) .ioError (muxEvents s ++
        [.write32 (regAddr s.platform .reload) r true, .write32 (regAddr s.platform .counter) r false]))) ∧
    (f ≠ 0 → d ≠ 0 → r = 0xFFFFFFFE → s.accepts (k + 2) →
      step s = .next (failedLoad s (k + 2) tuned .configError tuning)) ∧
    (f ≠ 0 → (d = 0 ∨ r ≠ 0xFFFFFFFE) → s.accepts (k + 2) → s.answer (k + 2) = .failed →
      step s = .next (failedLoad s (k + 3) tuned .ioError (tuning ++
        [.write32 (regAddr s.platform .ctrl) off false]))) ∧
    (f ≠ 0 → d ≠ 0 → r ≠ 0xFFFFFFFE → ∀ m, computeMatch d r.toNat (numCounts r.toNat) = some m →
      (s.accepts (k + 3) → s.answer (k + 3) = .failed →
        step s = .next (failedLoad s (k + 4) tuned .ioError (tuning ++
          [.write32 (regAddr s.platform .ctrl) off true,
           .write32 (regAddr s.platform .matchReg) (asU32 m) false]))) ∧
      (s.accepts (k + 4) → s.answer (k + 4) = .failed →
        step s = .next (failedLoad s (k + 5) tuned .ioError (tuning ++
          [.write32 (regAddr s.platform .ctrl) off true, .write32 (regAddr s.platform .matchReg) (asU32 m) true,
           .write32 (regAddr s.platform .ctrl) on false]))))

/-- A tick counts the sleep down in S_SLEEP with ticks left, and in every other case changes nothing but the trace
(R213, R82). -/
def Obligations.TickCountsOnlyTheSleep : Prop :=
  ∀ s : State, s.nextInput = .tick →
    (s.regs.seqState = .sleep → 0 < s.regs.sleepCnt.toNat → ∃ n : Word, n.toNat = s.regs.sleepCnt.toNat - 1 ∧
      step s = .next { s with
        inputs := s.inputs.drop 1
        inputNo := s.inputNo + 1
        regs := { s.regs with sleepCnt := n }
        trace := s.trace ++ [.tick] }) ∧
    (s.regs.seqState ≠ .sleep ∨ s.regs.sleepCnt = 0 → step s = .next { s with
      inputs := s.inputs.drop 1
      inputNo := s.inputNo + 1
      trace := s.trace ++ [.tick] })

/-- seq_advance moves the cursor by one sample, also in a session that has been stopped (R214). -/
def Obligations.SeqAdvanceMovesTheCursor : Prop :=
  ∀ s : State, s.Inv → s.nextInput = .sequencer → s.regs.seqState = .sleep → s.regs.sleepCnt = 0 →
    ∃ c : Word, c.toNat = s.regs.cursor.toNat + 1 ∧ step s = .next { s with
      inputs := s.inputs.drop 1
      inputNo := s.inputNo + 1
      regs := { s.regs with cursor := c, seqState := .check } }

/-- MODEL'S CHOICE (log 18): the sequencer's turn with no internal transition enabled (R243) changes nothing. -/
def Obligations.SequencerTurnWithNothingEnabled : Prop :=
  ∀ s : State, s.nextInput = .sequencer →
    (s.regs.seqState = .idle ∨ (s.regs.seqState = .sleep ∧ s.regs.sleepCnt ≠ 0)) →
    step s = .next { s with inputs := s.inputs.drop 1, inputNo := s.inputNo + 1 }

/-- A host write changes one byte of the sample memory, which the next read sees, and nothing else (R70). -/
def Obligations.HostStoreChangesOneByte : Prop :=
  ∀ (s : State) (a : Word) (b : Byte), s.mem.wf → s.nextInput = .hostStore a b →
    ∃ m, step s = .next { s with inputs := s.inputs.drop 1, inputNo := s.inputNo + 1, mem := m } ∧
      m.wf ∧ m.read a.toNat = b ∧ ∀ x, x ≠ a.toNat → m.read x = s.mem.read x

/-! ### Reset and the invariants (spec/10_state.md, spec/70_reset_and_hazards.md) -/

/-- R45: every state variable right after reset, and what follows from them. -/
def Obligations.ResetValues : Prop :=
  State.reset.regs = {
    reloadValue := 0
    matchValue := 0
    flags := {
      started := false
      polarity := false
      autoreload := true
      prescaleEnable := false
      prescaleRatio := 0 }
    frequency := 0
    configured := false
    detached := false
    muxSaved := false
    savedMux := 0
    active := false
    cursor := 0
    seqState := .idle
    bufBase := 0
    bufLen := 0
    interval := 0
    sleepCnt := 0
    pbErr := none } ∧
  State.reset.regs.ctlState = .unconfigured ∧ ctrlWord State.reset.regs.flags = 0x00000002 ∧ State.reset.trace = []

/-- Attach puts every state variable at its reset value, issues no access and leaves the environment as it is, in every
state, DETACHED among them (R300, R301). -/
def Obligations.AttachIsReset : Prop :=
  ∀ s : State, s.nextInput = .attach →
    step s = .next { s with inputs := s.inputs.drop 1, inputNo := s.inputNo + 1, regs := State.reset.regs }

/-- Reset meets the invariants (log 25 says what `State.Inv` holds beside the spec's own items). -/
def Obligations.ResetMeetsTheInvariants : Prop := State.reset.Inv

/-- Every step keeps the invariants, whatever the input and whatever the environment answers. `State.Inv` holds the items
spec/10_state.md infers ("Invariants that do hold in every reachable state") and the model's own additions of log 25. -/
def Obligations.StepKeepsTheInvariants : Prop :=
  ∀ s t : State, s.Inv → step s = .next t → t.Inv

/-- After any number of steps from a block at its reset values, under any parameters, inputs, answers and sample bytes,
the eleven items hold that spec/10_state.md infers ("Invariants that do hold in every reachable state"). -/
def Obligations.ReachableStatesMeetR41 : Prop :=
  ∀ (k : Nat) (s t : State), s.regs = State.reset.regs → s.platform.Valid → s.mem.wf →
    Sys2Proof.core.run k s = .next t → t.regs.InvariantsR41 s.platform

/-! ### Whole-machine rules -/

/-- No step stops the machine: every input in every state has a next state. -/
def Obligations.EveryStepGoesOn : Prop := ∀ s : State, ∃ t, step s = .next t

/-- Nothing observed is ever taken back: a step only adds events, so the transitions of one instance and their accesses
form one total order (R77, R240). -/
def Obligations.TraceOnlyGrows : Prop :=
  ∀ s t : State, step s = .next t → ∃ es, t.trace = s.trace ++ es

/-- Every event a step adds is one the spec allows: writes go to the four timer registers only, with bits 6 and 31:8 of
a control word 0; the mux accesses go to MUX_OFF only, read before the save and restored after it; a sample is read
only by seq_load, at buf_base + cursor; no status above 6 is produced. -/
def Obligations.NewEventsConform : Prop :=
  ∀ (s t : State) (es : List Event), step s = .next t → t.trace = s.trace ++ es → ∀ e ∈ es, e.Conforms s

/-- R32 and R61: which offset each timer register has; and the address of every timer register is a multiple of 4 inside
the page, without wrapping, and the four are distinct. -/
def Obligations.TimerAddressesLieInThePage : Prop :=
  (∀ p : Platform, regOffset p .ctrl = p.offCtrl ∧ regOffset p .counter = p.offCounter ∧
    regOffset p .reload = p.offReload ∧ regOffset p .matchReg = p.offMatch) ∧
  ∀ p : Platform, p.Valid →
    (∀ r, (regAddr p r).toNat = p.regBase.toNat + regOffset p r ∧ (regAddr p r).toNat % 4 = 0 ∧
      p.regBase.toNat ≤ (regAddr p r).toNat ∧ (regAddr p r).toNat < p.regBase.toNat + p.pageSize) ∧
    ∀ r r', regAddr p r = regAddr p r' → r = r'

/-- The parameters never change, and only the host's writes change the sample memory: the block writes no memory (R14,
R37). -/
def Obligations.PlatformAndMemoryAreNotTheBlocks : Prop :=
  ∀ s t : State, step s = .next t → t.platform = s.platform ∧
    ((∀ a b, s.nextInput ≠ .hostStore a b) → t.mem = s.mem)

/-- What only attach takes back: `configured`, `detached` and `mux_saved` never return to 0, and a saved mux value
never changes (R25, R34). -/
def Obligations.OnlyAttachForgets : Prop :=
  ∀ s t : State, step s = .next t → s.nextInput ≠ .attach →
    (s.regs.configured = true → t.regs.configured = true) ∧ (s.regs.detached = true → t.regs.detached = true) ∧
    (s.regs.muxSaved = true → t.regs.muxSaved = true ∧ t.regs.savedMux = s.regs.savedMux)

/-- The only writers of the cursor are PBSTART and seq_advance (R22, R35, R214), and of the buffer and the interval
PBSTART alone (R36); attach resets them. -/
def Obligations.WritersOfTheSessionRegisters : Prop :=
  ∀ s t : State, step s = .next t → s.nextInput ≠ .attach →
    (t.regs.cursor = s.regs.cursor ∧ t.regs.bufBase = s.regs.bufBase ∧ t.regs.bufLen = s.regs.bufLen ∧
      t.regs.interval = s.regs.interval) ∨
    (∃ w k a b c, s.nextInput = .command w k ∧ decode w = .ok (.pbstart a b c) ∧ s.regs.detached = false ∧
      preconditionError s (.pbstart a b c) = none ∧ t.regs.cursor = 0 ∧ t.regs.bufBase = a ∧ t.regs.bufLen = b ∧
      t.regs.interval = c) ∨
    (s.nextInput = .sequencer ∧ s.regs.seqState = .sleep ∧ s.regs.sleepCnt = 0 ∧
      t.regs.cursor = s.regs.cursor + 1 ∧ t.regs.bufBase = s.regs.bufBase ∧ t.regs.bufLen = s.regs.bufLen ∧
      t.regs.interval = s.regs.interval)

/-- A session begins only with an accepted PBSTART, which is not answered yet, and ends only with the deferred PBSTART
response, which carries the cursor (R38 item a, R103, R211); attach apart. -/
def Obligations.SessionsEndWithTheirResponse : Prop :=
  ∀ s t : State, step s = .next t → s.nextInput ≠ .attach →
    (s.regs.seqState = .idle → t.regs.seqState ≠ .idle → t.regs.active = true ∧ t.trace = s.trace ∧
      ∃ w k a b c, s.nextInput = .command w k ∧ decode w = .ok (.pbstart a b c)) ∧
    (s.regs.seqState ≠ .idle → t.regs.seqState = .idle → t.regs.active = false ∧ t.regs.pbErr = none ∧
      s.nextInput = .sequencer ∧ s.regs.seqState = .check ∧
      ∃ es st, t.trace = s.trace ++ es ++ [.response ⟨0x10, st, s.regs.cursor⟩])

/-! ### Sessions -/

/-- A session that is neither stopped nor failed plays every sample of its buffer once, in order, and ends OFF and idle
with the response OK and the cursor at the buffer's length, as spec/42_playback_engine.md infers ("The session issues `n`
sample reads at addresses `buf_base` to `buf_base + n − 1` in order"). -/
def Obligations.UninterruptedSessionPlaysEverySample : Prop :=
  ∀ (n : Nat) (s : State) (rest : List Input),
    s.Inv → s.regs.seqState = .check → s.regs.active = true → s.regs.pbErr = none → s.regs.cursor = 0 →
    s.regs.bufLen.toNat = n →
    3 ≤ s.platform.inputFreq / (clampFreq s.platform s.platform.baseClock.toInt).toNat →
    clampFreq s.platform s.platform.baseClock.toInt ≠ 0 →
    s.inputs = sessionInputs s.regs.interval.toNat n ++ rest → s.accepts (5 * n + 3) →
    ∃ t es, Sys2Proof.core.run (n * (s.regs.interval.toNat + 3) + 1) s = .next t ∧ t.inputs = rest ∧
      t.trace = s.trace ++ es ++ [.response ⟨0x10, .ok, s.regs.bufLen⟩] ∧
      sampleReads es = (List.range n).map (fun k =>
        (s.regs.bufBase + BitVec.ofNat 32 k, s.mem.read (s.regs.bufBase.toNat + k))) ∧
      t.regs.seqState = .idle ∧ t.regs.active = false ∧ t.regs.cursor = s.regs.bufLen ∧ t.regs.flags.started = false

/-- The drain that spec/42_playback_engine.md infers ("the sequencer reaches S_IDLE after at most"): while a stopped
session drains, every transition of the sequencer and every tick that counts brings its end
nearer, nothing but attach moves it away, and from the stop it is at most one sample interval and three transitions
away; a tick that does not count and a host write leave it where it is. -/
def Obligations.StoppedSessionDrains : Prop :=
  (∀ s : State, s.Inv → drainLeft s.regs ≤ s.regs.interval.toNat + 3) ∧
  ∀ s t : State, s.Inv → s.regs.active = false → s.regs.seqState ≠ .idle → step s = .next t → s.nextInput ≠ .attach →
    t.regs.active = false ∧ drainLeft t.regs ≤ drainLeft s.regs ∧
    (s.nextInput = .sequencer → ¬(s.regs.seqState = .sleep ∧ s.regs.sleepCnt ≠ 0) →
      drainLeft t.regs < drainLeft s.regs) ∧
    (s.nextInput = .tick → s.regs.seqState = .sleep → s.regs.sleepCnt ≠ 0 → drainLeft t.regs < drainLeft s.regs)
end

