-- ==== Sys2Proof/Laws/State.lean ====
section
/-! SUPPORT. Laws/State.lean: one lemma per field per update of the state, the block's registers and the flags, so that
no later proof unfolds a record update. -/

namespace Sys2Proof.Machine

/-! ### State.emit -/

@[simp] theorem State.emit_regs (s : State) (e : Event) : (s.emit e).regs = s.regs := rfl
@[simp] theorem State.emit_platform (s : State) (e : Event) : (s.emit e).platform = s.platform := rfl
@[simp] theorem State.emit_mem (s : State) (e : Event) : (s.emit e).mem = s.mem := rfl
@[simp] theorem State.emit_inputs (s : State) (e : Event) : (s.emit e).inputs = s.inputs := rfl
@[simp] theorem State.emit_inputNo (s : State) (e : Event) : (s.emit e).inputNo = s.inputNo := rfl
@[simp] theorem State.emit_answers (s : State) (e : Event) : (s.emit e).answers = s.answers := rfl
@[simp] theorem State.emit_answerNo (s : State) (e : Event) : (s.emit e).answerNo = s.answerNo := rfl
@[simp] theorem State.emit_trace (s : State) (e : Event) : (s.emit e).trace = s.trace ++ [e] := rfl

/-! ### State.commit -/

@[simp] theorem State.commit_regs (s : State) (f : Regs → Regs) : (s.commit f).regs = f s.regs := rfl
@[simp] theorem State.commit_platform (s : State) (f : Regs → Regs) : (s.commit f).platform = s.platform := rfl
@[simp] theorem State.commit_mem (s : State) (f : Regs → Regs) : (s.commit f).mem = s.mem := rfl
@[simp] theorem State.commit_inputs (s : State) (f : Regs → Regs) : (s.commit f).inputs = s.inputs := rfl
@[simp] theorem State.commit_inputNo (s : State) (f : Regs → Regs) : (s.commit f).inputNo = s.inputNo := rfl
@[simp] theorem State.commit_answers (s : State) (f : Regs → Regs) : (s.commit f).answers = s.answers := rfl
@[simp] theorem State.commit_answerNo (s : State) (f : Regs → Regs) : (s.commit f).answerNo = s.answerNo := rfl
@[simp] theorem State.commit_trace (s : State) (f : Regs → Regs) : (s.commit f).trace = s.trace := rfl

/-! ### State.setMem -/

@[simp] theorem State.setMem_regs (s : State) (m : Memory) : (s.setMem m).regs = s.regs := rfl
@[simp] theorem State.setMem_platform (s : State) (m : Memory) : (s.setMem m).platform = s.platform := rfl
@[simp] theorem State.setMem_mem (s : State) (m : Memory) : (s.setMem m).mem = m := rfl
@[simp] theorem State.setMem_inputs (s : State) (m : Memory) : (s.setMem m).inputs = s.inputs := rfl
@[simp] theorem State.setMem_inputNo (s : State) (m : Memory) : (s.setMem m).inputNo = s.inputNo := rfl
@[simp] theorem State.setMem_answers (s : State) (m : Memory) : (s.setMem m).answers = s.answers := rfl
@[simp] theorem State.setMem_answerNo (s : State) (m : Memory) : (s.setMem m).answerNo = s.answerNo := rfl
@[simp] theorem State.setMem_trace (s : State) (m : Memory) : (s.setMem m).trace = s.trace := rfl

/-! ### State.answered -/

@[simp] theorem State.answered_regs (s : State) (n : Nat) : (s.answered n).regs = s.regs := rfl
@[simp] theorem State.answered_platform (s : State) (n : Nat) : (s.answered n).platform = s.platform := rfl
@[simp] theorem State.answered_mem (s : State) (n : Nat) : (s.answered n).mem = s.mem := rfl
@[simp] theorem State.answered_inputs (s : State) (n : Nat) : (s.answered n).inputs = s.inputs := rfl
@[simp] theorem State.answered_inputNo (s : State) (n : Nat) : (s.answered n).inputNo = s.inputNo := rfl
@[simp] theorem State.answered_answers (s : State) (n : Nat) : (s.answered n).answers = s.answers.drop n := rfl
@[simp] theorem State.answered_answerNo (s : State) (n : Nat) : (s.answered n).answerNo = s.answerNo + n := rfl
@[simp] theorem State.answered_trace (s : State) (n : Nat) : (s.answered n).trace = s.trace := rfl

/-! ### State.inputTaken -/

@[simp] theorem State.inputTaken_regs (s : State) : (s.inputTaken).regs = s.regs := rfl
@[simp] theorem State.inputTaken_platform (s : State) : (s.inputTaken).platform = s.platform := rfl
@[simp] theorem State.inputTaken_mem (s : State) : (s.inputTaken).mem = s.mem := rfl
@[simp] theorem State.inputTaken_inputs (s : State) : (s.inputTaken).inputs = s.inputs.drop 1 := rfl
@[simp] theorem State.inputTaken_inputNo (s : State) : (s.inputTaken).inputNo = s.inputNo + 1 := rfl
@[simp] theorem State.inputTaken_answers (s : State) : (s.inputTaken).answers = s.answers := rfl
@[simp] theorem State.inputTaken_answerNo (s : State) : (s.inputTaken).answerNo = s.answerNo := rfl
@[simp] theorem State.inputTaken_trace (s : State) : (s.inputTaken).trace = s.trace := rfl

/-! ### Regs.saveMux -/

@[simp] theorem Regs.saveMux_reloadValue (v : Half) (r : Regs) : (r.saveMux v).reloadValue = r.reloadValue := rfl
@[simp] theorem Regs.saveMux_matchValue (v : Half) (r : Regs) : (r.saveMux v).matchValue = r.matchValue := rfl
@[simp] theorem Regs.saveMux_flags (v : Half) (r : Regs) : (r.saveMux v).flags = r.flags := rfl
@[simp] theorem Regs.saveMux_frequency (v : Half) (r : Regs) : (r.saveMux v).frequency = r.frequency := rfl
@[simp] theorem Regs.saveMux_configured (v : Half) (r : Regs) : (r.saveMux v).configured = r.configured := rfl
@[simp] theorem Regs.saveMux_detached (v : Half) (r : Regs) : (r.saveMux v).detached = r.detached := rfl
@[simp] theorem Regs.saveMux_muxSaved (v : Half) (r : Regs) : (r.saveMux v).muxSaved = true := rfl
@[simp] theorem Regs.saveMux_savedMux (v : Half) (r : Regs) : (r.saveMux v).savedMux = v := rfl
@[simp] theorem Regs.saveMux_active (v : Half) (r : Regs) : (r.saveMux v).active = r.active := rfl
@[simp] theorem Regs.saveMux_cursor (v : Half) (r : Regs) : (r.saveMux v).cursor = r.cursor := rfl
@[simp] theorem Regs.saveMux_seqState (v : Half) (r : Regs) : (r.saveMux v).seqState = r.seqState := rfl
@[simp] theorem Regs.saveMux_bufBase (v : Half) (r : Regs) : (r.saveMux v).bufBase = r.bufBase := rfl
@[simp] theorem Regs.saveMux_bufLen (v : Half) (r : Regs) : (r.saveMux v).bufLen = r.bufLen := rfl
@[simp] theorem Regs.saveMux_interval (v : Half) (r : Regs) : (r.saveMux v).interval = r.interval := rfl
@[simp] theorem Regs.saveMux_sleepCnt (v : Half) (r : Regs) : (r.saveMux v).sleepCnt = r.sleepCnt := rfl
@[simp] theorem Regs.saveMux_pbErr (v : Half) (r : Regs) : (r.saveMux v).pbErr = r.pbErr := rfl

/-! ### Regs.setFlags -/

@[simp] theorem Regs.setFlags_reloadValue (f : Flags) (r : Regs) : (r.setFlags f).reloadValue = r.reloadValue := rfl
@[simp] theorem Regs.setFlags_matchValue (f : Flags) (r : Regs) : (r.setFlags f).matchValue = r.matchValue := rfl
@[simp] theorem Regs.setFlags_flags (f : Flags) (r : Regs) : (r.setFlags f).flags = f := rfl
@[simp] theorem Regs.setFlags_frequency (f : Flags) (r : Regs) : (r.setFlags f).frequency = r.frequency := rfl
@[simp] theorem Regs.setFlags_configured (f : Flags) (r : Regs) : (r.setFlags f).configured = r.configured := rfl
@[simp] theorem Regs.setFlags_detached (f : Flags) (r : Regs) : (r.setFlags f).detached = r.detached := rfl
@[simp] theorem Regs.setFlags_muxSaved (f : Flags) (r : Regs) : (r.setFlags f).muxSaved = r.muxSaved := rfl
@[simp] theorem Regs.setFlags_savedMux (f : Flags) (r : Regs) : (r.setFlags f).savedMux = r.savedMux := rfl
@[simp] theorem Regs.setFlags_active (f : Flags) (r : Regs) : (r.setFlags f).active = r.active := rfl
@[simp] theorem Regs.setFlags_cursor (f : Flags) (r : Regs) : (r.setFlags f).cursor = r.cursor := rfl
@[simp] theorem Regs.setFlags_seqState (f : Flags) (r : Regs) : (r.setFlags f).seqState = r.seqState := rfl
@[simp] theorem Regs.setFlags_bufBase (f : Flags) (r : Regs) : (r.setFlags f).bufBase = r.bufBase := rfl
@[simp] theorem Regs.setFlags_bufLen (f : Flags) (r : Regs) : (r.setFlags f).bufLen = r.bufLen := rfl
@[simp] theorem Regs.setFlags_interval (f : Flags) (r : Regs) : (r.setFlags f).interval = r.interval := rfl
@[simp] theorem Regs.setFlags_sleepCnt (f : Flags) (r : Regs) : (r.setFlags f).sleepCnt = r.sleepCnt := rfl
@[simp] theorem Regs.setFlags_pbErr (f : Flags) (r : Regs) : (r.setFlags f).pbErr = r.pbErr := rfl

/-! ### Regs.commitFrequency -/

@[simp] theorem Regs.commitFrequency_reloadValue (v f : Word) (r : Regs) : (r.commitFrequency v f).reloadValue = v := rfl
@[simp] theorem Regs.commitFrequency_matchValue (v f : Word) (r : Regs) : (r.commitFrequency v f).matchValue = r.matchValue := rfl
@[simp] theorem Regs.commitFrequency_flags (v f : Word) (r : Regs) : (r.commitFrequency v f).flags = r.flags := rfl
@[simp] theorem Regs.commitFrequency_frequency (v f : Word) (r : Regs) : (r.commitFrequency v f).frequency = f := rfl
@[simp] theorem Regs.commitFrequency_configured (v f : Word) (r : Regs) : (r.commitFrequency v f).configured = true := rfl
@[simp] theorem Regs.commitFrequency_detached (v f : Word) (r : Regs) : (r.commitFrequency v f).detached = r.detached := rfl
@[simp] theorem Regs.commitFrequency_muxSaved (v f : Word) (r : Regs) : (r.commitFrequency v f).muxSaved = r.muxSaved := rfl
@[simp] theorem Regs.commitFrequency_savedMux (v f : Word) (r : Regs) : (r.commitFrequency v f).savedMux = r.savedMux := rfl
@[simp] theorem Regs.commitFrequency_active (v f : Word) (r : Regs) : (r.commitFrequency v f).active = r.active := rfl
@[simp] theorem Regs.commitFrequency_cursor (v f : Word) (r : Regs) : (r.commitFrequency v f).cursor = r.cursor := rfl
@[simp] theorem Regs.commitFrequency_seqState (v f : Word) (r : Regs) : (r.commitFrequency v f).seqState = r.seqState := rfl
@[simp] theorem Regs.commitFrequency_bufBase (v f : Word) (r : Regs) : (r.commitFrequency v f).bufBase = r.bufBase := rfl
@[simp] theorem Regs.commitFrequency_bufLen (v f : Word) (r : Regs) : (r.commitFrequency v f).bufLen = r.bufLen := rfl
@[simp] theorem Regs.commitFrequency_interval (v f : Word) (r : Regs) : (r.commitFrequency v f).interval = r.interval := rfl
@[simp] theorem Regs.commitFrequency_sleepCnt (v f : Word) (r : Regs) : (r.commitFrequency v f).sleepCnt = r.sleepCnt := rfl
@[simp] theorem Regs.commitFrequency_pbErr (v f : Word) (r : Regs) : (r.commitFrequency v f).pbErr = r.pbErr := rfl

/-! ### Regs.commitDuty -/

@[simp] theorem Regs.commitDuty_reloadValue (m : Word) (r : Regs) : (r.commitDuty m).reloadValue = r.reloadValue := rfl
@[simp] theorem Regs.commitDuty_matchValue (m : Word) (r : Regs) : (r.commitDuty m).matchValue = m := rfl
@[simp] theorem Regs.commitDuty_flags (m : Word) (r : Regs) : (r.commitDuty m).flags = r.flags.start := rfl
@[simp] theorem Regs.commitDuty_frequency (m : Word) (r : Regs) : (r.commitDuty m).frequency = r.frequency := rfl
@[simp] theorem Regs.commitDuty_configured (m : Word) (r : Regs) : (r.commitDuty m).configured = r.configured := rfl
@[simp] theorem Regs.commitDuty_detached (m : Word) (r : Regs) : (r.commitDuty m).detached = r.detached := rfl
@[simp] theorem Regs.commitDuty_muxSaved (m : Word) (r : Regs) : (r.commitDuty m).muxSaved = r.muxSaved := rfl
@[simp] theorem Regs.commitDuty_savedMux (m : Word) (r : Regs) : (r.commitDuty m).savedMux = r.savedMux := rfl
@[simp] theorem Regs.commitDuty_active (m : Word) (r : Regs) : (r.commitDuty m).active = r.active := rfl
@[simp] theorem Regs.commitDuty_cursor (m : Word) (r : Regs) : (r.commitDuty m).cursor = r.cursor := rfl
@[simp] theorem Regs.commitDuty_seqState (m : Word) (r : Regs) : (r.commitDuty m).seqState = r.seqState := rfl
@[simp] theorem Regs.commitDuty_bufBase (m : Word) (r : Regs) : (r.commitDuty m).bufBase = r.bufBase := rfl
@[simp] theorem Regs.commitDuty_bufLen (m : Word) (r : Regs) : (r.commitDuty m).bufLen = r.bufLen := rfl
@[simp] theorem Regs.commitDuty_interval (m : Word) (r : Regs) : (r.commitDuty m).interval = r.interval := rfl
@[simp] theorem Regs.commitDuty_sleepCnt (m : Word) (r : Regs) : (r.commitDuty m).sleepCnt = r.sleepCnt := rfl
@[simp] theorem Regs.commitDuty_pbErr (m : Word) (r : Regs) : (r.commitDuty m).pbErr = r.pbErr := rfl

/-! ### Regs.commitDetach -/

@[simp] theorem Regs.commitDetach_reloadValue (r : Regs) : (r.commitDetach).reloadValue = r.reloadValue := rfl
@[simp] theorem Regs.commitDetach_matchValue (r : Regs) : (r.commitDetach).matchValue = r.matchValue := rfl
@[simp] theorem Regs.commitDetach_flags (r : Regs) : (r.commitDetach).flags = r.flags.stop := rfl
@[simp] theorem Regs.commitDetach_frequency (r : Regs) : (r.commitDetach).frequency = r.frequency := rfl
@[simp] theorem Regs.commitDetach_configured (r : Regs) : (r.commitDetach).configured = r.configured := rfl
@[simp] theorem Regs.commitDetach_detached (r : Regs) : (r.commitDetach).detached = true := rfl
@[simp] theorem Regs.commitDetach_muxSaved (r : Regs) : (r.commitDetach).muxSaved = r.muxSaved := rfl
@[simp] theorem Regs.commitDetach_savedMux (r : Regs) : (r.commitDetach).savedMux = r.savedMux := rfl
@[simp] theorem Regs.commitDetach_active (r : Regs) : (r.commitDetach).active = r.active := rfl
@[simp] theorem Regs.commitDetach_cursor (r : Regs) : (r.commitDetach).cursor = r.cursor := rfl
@[simp] theorem Regs.commitDetach_seqState (r : Regs) : (r.commitDetach).seqState = r.seqState := rfl
@[simp] theorem Regs.commitDetach_bufBase (r : Regs) : (r.commitDetach).bufBase = r.bufBase := rfl
@[simp] theorem Regs.commitDetach_bufLen (r : Regs) : (r.commitDetach).bufLen = r.bufLen := rfl
@[simp] theorem Regs.commitDetach_interval (r : Regs) : (r.commitDetach).interval = r.interval := rfl
@[simp] theorem Regs.commitDetach_sleepCnt (r : Regs) : (r.commitDetach).sleepCnt = r.sleepCnt := rfl
@[simp] theorem Regs.commitDetach_pbErr (r : Regs) : (r.commitDetach).pbErr = r.pbErr := rfl

/-! ### Regs.startSession -/

@[simp] theorem Regs.startSession_reloadValue (a b c : Word) (r : Regs) : (r.startSession a b c).reloadValue = r.reloadValue := rfl
@[simp] theorem Regs.startSession_matchValue (a b c : Word) (r : Regs) : (r.startSession a b c).matchValue = r.matchValue := rfl
@[simp] theorem Regs.startSession_flags (a b c : Word) (r : Regs) : (r.startSession a b c).flags = r.flags := rfl
@[simp] theorem Regs.startSession_frequency (a b c : Word) (r : Regs) : (r.startSession a b c).frequency = r.frequency := rfl
@[simp] theorem Regs.startSession_configured (a b c : Word) (r : Regs) : (r.startSession a b c).configured = r.configured := rfl
@[simp] theorem Regs.startSession_detached (a b c : Word) (r : Regs) : (r.startSession a b c).detached = r.detached := rfl
@[simp] theorem Regs.startSession_muxSaved (a b c : Word) (r : Regs) : (r.startSession a b c).muxSaved = r.muxSaved := rfl
@[simp] theorem Regs.startSession_savedMux (a b c : Word) (r : Regs) : (r.startSession a b c).savedMux = r.savedMux := rfl
@[simp] theorem Regs.startSession_active (a b c : Word) (r : Regs) : (r.startSession a b c).active = true := rfl
@[simp] theorem Regs.startSession_cursor (a b c : Word) (r : Regs) : (r.startSession a b c).cursor = 0 := rfl
@[simp] theorem Regs.startSession_seqState (a b c : Word) (r : Regs) : (r.startSession a b c).seqState = .check := rfl
@[simp] theorem Regs.startSession_bufBase (a b c : Word) (r : Regs) : (r.startSession a b c).bufBase = a := rfl
@[simp] theorem Regs.startSession_bufLen (a b c : Word) (r : Regs) : (r.startSession a b c).bufLen = b := rfl
@[simp] theorem Regs.startSession_interval (a b c : Word) (r : Regs) : (r.startSession a b c).interval = c := rfl
@[simp] theorem Regs.startSession_sleepCnt (a b c : Word) (r : Regs) : (r.startSession a b c).sleepCnt = 0 := rfl
@[simp] theorem Regs.startSession_pbErr (a b c : Word) (r : Regs) : (r.startSession a b c).pbErr = none := rfl

/-! ### Regs.clearActive -/

@[simp] theorem Regs.clearActive_reloadValue (r : Regs) : (r.clearActive).reloadValue = r.reloadValue := rfl
@[simp] theorem Regs.clearActive_matchValue (r : Regs) : (r.clearActive).matchValue = r.matchValue := rfl
@[simp] theorem Regs.clearActive_flags (r : Regs) : (r.clearActive).flags = r.flags := rfl
@[simp] theorem Regs.clearActive_frequency (r : Regs) : (r.clearActive).frequency = r.frequency := rfl
@[simp] theorem Regs.clearActive_configured (r : Regs) : (r.clearActive).configured = r.configured := rfl
@[simp] theorem Regs.clearActive_detached (r : Regs) : (r.clearActive).detached = r.detached := rfl
@[simp] theorem Regs.clearActive_muxSaved (r : Regs) : (r.clearActive).muxSaved = r.muxSaved := rfl
@[simp] theorem Regs.clearActive_savedMux (r : Regs) : (r.clearActive).savedMux = r.savedMux := rfl
@[simp] theorem Regs.clearActive_active (r : Regs) : (r.clearActive).active = false := rfl
@[simp] theorem Regs.clearActive_cursor (r : Regs) : (r.clearActive).cursor = r.cursor := rfl
@[simp] theorem Regs.clearActive_seqState (r : Regs) : (r.clearActive).seqState = r.seqState := rfl
@[simp] theorem Regs.clearActive_bufBase (r : Regs) : (r.clearActive).bufBase = r.bufBase := rfl
@[simp] theorem Regs.clearActive_bufLen (r : Regs) : (r.clearActive).bufLen = r.bufLen := rfl
@[simp] theorem Regs.clearActive_interval (r : Regs) : (r.clearActive).interval = r.interval := rfl
@[simp] theorem Regs.clearActive_sleepCnt (r : Regs) : (r.clearActive).sleepCnt = r.sleepCnt := rfl
@[simp] theorem Regs.clearActive_pbErr (r : Regs) : (r.clearActive).pbErr = r.pbErr := rfl

/-! ### Regs.endSession -/

@[simp] theorem Regs.endSession_reloadValue (r : Regs) : (r.endSession).reloadValue = r.reloadValue := rfl
@[simp] theorem Regs.endSession_matchValue (r : Regs) : (r.endSession).matchValue = r.matchValue := rfl
@[simp] theorem Regs.endSession_flags (r : Regs) : (r.endSession).flags = r.flags := rfl
@[simp] theorem Regs.endSession_frequency (r : Regs) : (r.endSession).frequency = r.frequency := rfl
@[simp] theorem Regs.endSession_configured (r : Regs) : (r.endSession).configured = r.configured := rfl
@[simp] theorem Regs.endSession_detached (r : Regs) : (r.endSession).detached = r.detached := rfl
@[simp] theorem Regs.endSession_muxSaved (r : Regs) : (r.endSession).muxSaved = r.muxSaved := rfl
@[simp] theorem Regs.endSession_savedMux (r : Regs) : (r.endSession).savedMux = r.savedMux := rfl
@[simp] theorem Regs.endSession_active (r : Regs) : (r.endSession).active = false := rfl
@[simp] theorem Regs.endSession_cursor (r : Regs) : (r.endSession).cursor = r.cursor := rfl
@[simp] theorem Regs.endSession_seqState (r : Regs) : (r.endSession).seqState = .idle := rfl
@[simp] theorem Regs.endSession_bufBase (r : Regs) : (r.endSession).bufBase = r.bufBase := rfl
@[simp] theorem Regs.endSession_bufLen (r : Regs) : (r.endSession).bufLen = r.bufLen := rfl
@[simp] theorem Regs.endSession_interval (r : Regs) : (r.endSession).interval = r.interval := rfl
@[simp] theorem Regs.endSession_sleepCnt (r : Regs) : (r.endSession).sleepCnt = r.sleepCnt := rfl
@[simp] theorem Regs.endSession_pbErr (r : Regs) : (r.endSession).pbErr = none := rfl

/-! ### Regs.enterLoad -/

@[simp] theorem Regs.enterLoad_reloadValue (r : Regs) : (r.enterLoad).reloadValue = r.reloadValue := rfl
@[simp] theorem Regs.enterLoad_matchValue (r : Regs) : (r.enterLoad).matchValue = r.matchValue := rfl
@[simp] theorem Regs.enterLoad_flags (r : Regs) : (r.enterLoad).flags = r.flags := rfl
@[simp] theorem Regs.enterLoad_frequency (r : Regs) : (r.enterLoad).frequency = r.frequency := rfl
@[simp] theorem Regs.enterLoad_configured (r : Regs) : (r.enterLoad).configured = r.configured := rfl
@[simp] theorem Regs.enterLoad_detached (r : Regs) : (r.enterLoad).detached = r.detached := rfl
@[simp] theorem Regs.enterLoad_muxSaved (r : Regs) : (r.enterLoad).muxSaved = r.muxSaved := rfl
@[simp] theorem Regs.enterLoad_savedMux (r : Regs) : (r.enterLoad).savedMux = r.savedMux := rfl
@[simp] theorem Regs.enterLoad_active (r : Regs) : (r.enterLoad).active = r.active := rfl
@[simp] theorem Regs.enterLoad_cursor (r : Regs) : (r.enterLoad).cursor = r.cursor := rfl
@[simp] theorem Regs.enterLoad_seqState (r : Regs) : (r.enterLoad).seqState = .load := rfl
@[simp] theorem Regs.enterLoad_bufBase (r : Regs) : (r.enterLoad).bufBase = r.bufBase := rfl
@[simp] theorem Regs.enterLoad_bufLen (r : Regs) : (r.enterLoad).bufLen = r.bufLen := rfl
@[simp] theorem Regs.enterLoad_interval (r : Regs) : (r.enterLoad).interval = r.interval := rfl
@[simp] theorem Regs.enterLoad_sleepCnt (r : Regs) : (r.enterLoad).sleepCnt = r.sleepCnt := rfl
@[simp] theorem Regs.enterLoad_pbErr (r : Regs) : (r.enterLoad).pbErr = r.pbErr := rfl

/-! ### Regs.enterSleep -/

@[simp] theorem Regs.enterSleep_reloadValue (r : Regs) : (r.enterSleep).reloadValue = r.reloadValue := rfl
@[simp] theorem Regs.enterSleep_matchValue (r : Regs) : (r.enterSleep).matchValue = r.matchValue := rfl
@[simp] theorem Regs.enterSleep_flags (r : Regs) : (r.enterSleep).flags = r.flags := rfl
@[simp] theorem Regs.enterSleep_frequency (r : Regs) : (r.enterSleep).frequency = r.frequency := rfl
@[simp] theorem Regs.enterSleep_configured (r : Regs) : (r.enterSleep).configured = r.configured := rfl
@[simp] theorem Regs.enterSleep_detached (r : Regs) : (r.enterSleep).detached = r.detached := rfl
@[simp] theorem Regs.enterSleep_muxSaved (r : Regs) : (r.enterSleep).muxSaved = r.muxSaved := rfl
@[simp] theorem Regs.enterSleep_savedMux (r : Regs) : (r.enterSleep).savedMux = r.savedMux := rfl
@[simp] theorem Regs.enterSleep_active (r : Regs) : (r.enterSleep).active = r.active := rfl
@[simp] theorem Regs.enterSleep_cursor (r : Regs) : (r.enterSleep).cursor = r.cursor := rfl
@[simp] theorem Regs.enterSleep_seqState (r : Regs) : (r.enterSleep).seqState = .sleep := rfl
@[simp] theorem Regs.enterSleep_bufBase (r : Regs) : (r.enterSleep).bufBase = r.bufBase := rfl
@[simp] theorem Regs.enterSleep_bufLen (r : Regs) : (r.enterSleep).bufLen = r.bufLen := rfl
@[simp] theorem Regs.enterSleep_interval (r : Regs) : (r.enterSleep).interval = r.interval := rfl
@[simp] theorem Regs.enterSleep_sleepCnt (r : Regs) : (r.enterSleep).sleepCnt = r.interval := rfl
@[simp] theorem Regs.enterSleep_pbErr (r : Regs) : (r.enterSleep).pbErr = r.pbErr := rfl

/-! ### Regs.failLoad -/

@[simp] theorem Regs.failLoad_reloadValue (e : ErrorKind) (r : Regs) : (r.failLoad e).reloadValue = r.reloadValue := rfl
@[simp] theorem Regs.failLoad_matchValue (e : ErrorKind) (r : Regs) : (r.failLoad e).matchValue = r.matchValue := rfl
@[simp] theorem Regs.failLoad_flags (e : ErrorKind) (r : Regs) : (r.failLoad e).flags = r.flags := rfl
@[simp] theorem Regs.failLoad_frequency (e : ErrorKind) (r : Regs) : (r.failLoad e).frequency = r.frequency := rfl
@[simp] theorem Regs.failLoad_configured (e : ErrorKind) (r : Regs) : (r.failLoad e).configured = r.configured := rfl
@[simp] theorem Regs.failLoad_detached (e : ErrorKind) (r : Regs) : (r.failLoad e).detached = r.detached := rfl
@[simp] theorem Regs.failLoad_muxSaved (e : ErrorKind) (r : Regs) : (r.failLoad e).muxSaved = r.muxSaved := rfl
@[simp] theorem Regs.failLoad_savedMux (e : ErrorKind) (r : Regs) : (r.failLoad e).savedMux = r.savedMux := rfl
@[simp] theorem Regs.failLoad_active (e : ErrorKind) (r : Regs) : (r.failLoad e).active = r.active := rfl
@[simp] theorem Regs.failLoad_cursor (e : ErrorKind) (r : Regs) : (r.failLoad e).cursor = r.cursor := rfl
@[simp] theorem Regs.failLoad_seqState (e : ErrorKind) (r : Regs) : (r.failLoad e).seqState = .check := rfl
@[simp] theorem Regs.failLoad_bufBase (e : ErrorKind) (r : Regs) : (r.failLoad e).bufBase = r.bufBase := rfl
@[simp] theorem Regs.failLoad_bufLen (e : ErrorKind) (r : Regs) : (r.failLoad e).bufLen = r.bufLen := rfl
@[simp] theorem Regs.failLoad_interval (e : ErrorKind) (r : Regs) : (r.failLoad e).interval = r.interval := rfl
@[simp] theorem Regs.failLoad_sleepCnt (e : ErrorKind) (r : Regs) : (r.failLoad e).sleepCnt = r.sleepCnt := rfl
@[simp] theorem Regs.failLoad_pbErr (e : ErrorKind) (r : Regs) : (r.failLoad e).pbErr = some e := rfl

/-! ### Regs.countTick -/

@[simp] theorem Regs.countTick_reloadValue (r : Regs) : (r.countTick).reloadValue = r.reloadValue := rfl
@[simp] theorem Regs.countTick_matchValue (r : Regs) : (r.countTick).matchValue = r.matchValue := rfl
@[simp] theorem Regs.countTick_flags (r : Regs) : (r.countTick).flags = r.flags := rfl
@[simp] theorem Regs.countTick_frequency (r : Regs) : (r.countTick).frequency = r.frequency := rfl
@[simp] theorem Regs.countTick_configured (r : Regs) : (r.countTick).configured = r.configured := rfl
@[simp] theorem Regs.countTick_detached (r : Regs) : (r.countTick).detached = r.detached := rfl
@[simp] theorem Regs.countTick_muxSaved (r : Regs) : (r.countTick).muxSaved = r.muxSaved := rfl
@[simp] theorem Regs.countTick_savedMux (r : Regs) : (r.countTick).savedMux = r.savedMux := rfl
@[simp] theorem Regs.countTick_active (r : Regs) : (r.countTick).active = r.active := rfl
@[simp] theorem Regs.countTick_cursor (r : Regs) : (r.countTick).cursor = r.cursor := rfl
@[simp] theorem Regs.countTick_seqState (r : Regs) : (r.countTick).seqState = r.seqState := rfl
@[simp] theorem Regs.countTick_bufBase (r : Regs) : (r.countTick).bufBase = r.bufBase := rfl
@[simp] theorem Regs.countTick_bufLen (r : Regs) : (r.countTick).bufLen = r.bufLen := rfl
@[simp] theorem Regs.countTick_interval (r : Regs) : (r.countTick).interval = r.interval := rfl
@[simp] theorem Regs.countTick_sleepCnt (r : Regs) : (r.countTick).sleepCnt = r.sleepCnt - 1 := rfl
@[simp] theorem Regs.countTick_pbErr (r : Regs) : (r.countTick).pbErr = r.pbErr := rfl

/-! ### Regs.advanceCursor -/

@[simp] theorem Regs.advanceCursor_reloadValue (r : Regs) : (r.advanceCursor).reloadValue = r.reloadValue := rfl
@[simp] theorem Regs.advanceCursor_matchValue (r : Regs) : (r.advanceCursor).matchValue = r.matchValue := rfl
@[simp] theorem Regs.advanceCursor_flags (r : Regs) : (r.advanceCursor).flags = r.flags := rfl
@[simp] theorem Regs.advanceCursor_frequency (r : Regs) : (r.advanceCursor).frequency = r.frequency := rfl
@[simp] theorem Regs.advanceCursor_configured (r : Regs) : (r.advanceCursor).configured = r.configured := rfl
@[simp] theorem Regs.advanceCursor_detached (r : Regs) : (r.advanceCursor).detached = r.detached := rfl
@[simp] theorem Regs.advanceCursor_muxSaved (r : Regs) : (r.advanceCursor).muxSaved = r.muxSaved := rfl
@[simp] theorem Regs.advanceCursor_savedMux (r : Regs) : (r.advanceCursor).savedMux = r.savedMux := rfl
@[simp] theorem Regs.advanceCursor_active (r : Regs) : (r.advanceCursor).active = r.active := rfl
@[simp] theorem Regs.advanceCursor_cursor (r : Regs) : (r.advanceCursor).cursor = r.cursor + 1 := rfl
@[simp] theorem Regs.advanceCursor_seqState (r : Regs) : (r.advanceCursor).seqState = .check := rfl
@[simp] theorem Regs.advanceCursor_bufBase (r : Regs) : (r.advanceCursor).bufBase = r.bufBase := rfl
@[simp] theorem Regs.advanceCursor_bufLen (r : Regs) : (r.advanceCursor).bufLen = r.bufLen := rfl
@[simp] theorem Regs.advanceCursor_interval (r : Regs) : (r.advanceCursor).interval = r.interval := rfl
@[simp] theorem Regs.advanceCursor_sleepCnt (r : Regs) : (r.advanceCursor).sleepCnt = r.sleepCnt := rfl
@[simp] theorem Regs.advanceCursor_pbErr (r : Regs) : (r.advanceCursor).pbErr = r.pbErr := rfl

/-! ### Flags.stop -/

@[simp] theorem Flags.stop_started (f : Flags) : (f.stop).started = false := rfl
@[simp] theorem Flags.stop_polarity (f : Flags) : (f.stop).polarity = f.polarity := rfl
@[simp] theorem Flags.stop_autoreload (f : Flags) : (f.stop).autoreload = f.autoreload := rfl
@[simp] theorem Flags.stop_prescaleEnable (f : Flags) : (f.stop).prescaleEnable = f.prescaleEnable := rfl
@[simp] theorem Flags.stop_prescaleRatio (f : Flags) : (f.stop).prescaleRatio = f.prescaleRatio := rfl

/-! ### Flags.start -/

@[simp] theorem Flags.start_started (f : Flags) : (f.start).started = true := rfl
@[simp] theorem Flags.start_polarity (f : Flags) : (f.start).polarity = f.polarity := rfl
@[simp] theorem Flags.start_autoreload (f : Flags) : (f.start).autoreload = f.autoreload := rfl
@[simp] theorem Flags.start_prescaleEnable (f : Flags) : (f.start).prescaleEnable = f.prescaleEnable := rfl
@[simp] theorem Flags.start_prescaleRatio (f : Flags) : (f.start).prescaleRatio = f.prescaleRatio := rfl

/-! ### Flags.setPolarity -/

@[simp] theorem Flags.setPolarity_started (f : Flags) (b : Bool) : (f.setPolarity b).started = f.started := rfl
@[simp] theorem Flags.setPolarity_polarity (f : Flags) (b : Bool) : (f.setPolarity b).polarity = b := rfl
@[simp] theorem Flags.setPolarity_autoreload (f : Flags) (b : Bool) : (f.setPolarity b).autoreload = f.autoreload := rfl
@[simp] theorem Flags.setPolarity_prescaleEnable (f : Flags) (b : Bool) : (f.setPolarity b).prescaleEnable = f.prescaleEnable := rfl
@[simp] theorem Flags.setPolarity_prescaleRatio (f : Flags) (b : Bool) : (f.setPolarity b).prescaleRatio = f.prescaleRatio := rfl

/-! ### Answers -/

/-- The k-th answer after `n` more have been used. -/
@[simp] theorem State.answered_answer (s : State) (n k : Nat) : (s.answered n).answer k = s.answer (n + k) := by
  simp [State.answer, List.getElem?_drop, Nat.add_assoc]

@[simp] theorem State.emit_answer (s : State) (e : Event) (k : Nat) : (s.emit e).answer k = s.answer k := rfl

@[simp] theorem State.commit_answer (s : State) (f : Regs → Regs) (k : Nat) : (s.commit f).answer k = s.answer k := rfl

@[simp] theorem State.inputTaken_answer (s : State) (k : Nat) : s.inputTaken.answer k = s.answer k := rfl

end Sys2Proof.Machine
end

