-- ==== Sys2Proof/Laws/Ops.lean ====
section
/-! SUPPORT. Laws/Ops.lean: for each shared operation, once, everything it can do. Every operation ends in
`(s.issued es).commit f` or `s.issued es`: accesses issued, and then at most commit blocks. -/

namespace Sys2Proof.Machine

/-- `s` after accesses with the events `es`, one answer used for each. -/
def State.issued (s : State) (es : List Event) : State :=
  { s with answers := s.answers.drop es.length, answerNo := s.answerNo + es.length, trace := s.trace ++ es }

@[simp] theorem State.issued_regs (s : State) (es : List Event) : (s.issued es).regs = s.regs := rfl
@[simp] theorem State.issued_platform (s : State) (es : List Event) : (s.issued es).platform = s.platform := rfl
@[simp] theorem State.issued_mem (s : State) (es : List Event) : (s.issued es).mem = s.mem := rfl
@[simp] theorem State.issued_inputs (s : State) (es : List Event) : (s.issued es).inputs = s.inputs := rfl
@[simp] theorem State.issued_inputNo (s : State) (es : List Event) : (s.issued es).inputNo = s.inputNo := rfl
@[simp] theorem State.issued_answers (s : State) (es : List Event) :
    (s.issued es).answers = s.answers.drop es.length := rfl
@[simp] theorem State.issued_answerNo (s : State) (es : List Event) :
    (s.issued es).answerNo = s.answerNo + es.length := rfl
@[simp] theorem State.issued_trace (s : State) (es : List Event) : (s.issued es).trace = s.trace ++ es := rfl

@[simp] theorem State.issued_answer (s : State) (es : List Event) (k : Nat) :
    (s.issued es).answer k = s.answer (es.length + k) := by
  simp [State.answer, List.getElem?_drop, Nat.add_assoc]

@[simp] theorem State.issued_nil (s : State) : s.issued [] = s := by
  simp [State.issued]

@[simp] theorem State.issued_issued (s : State) (es fs : List Event) : (s.issued es).issued fs = s.issued (es ++ fs) := by
  simp [State.issued, Nat.add_assoc]

/-- Issuing and committing commute: both are normalised to the commit outside. -/
@[simp] theorem State.commit_issued (s : State) (f : Regs → Regs) (es : List Event) :
    (s.commit f).issued es = (s.issued es).commit f := rfl

@[simp] theorem State.commit_commit (s : State) (f g : Regs → Regs) :
    (s.commit f).commit g = s.commit fun r => g (f r) := rfl

/-! ### Results -/

@[simp] theorem Result.andThen_ok {α β : Type} (v : α) (s : State) (f : α → State → Result β) :
    (Result.ok v s).andThen f = f v s := rfl

@[simp] theorem Result.andThen_raised {α β : Type} (e : ErrorKind) (s : State) (f : α → State → Result β) :
    (Result.raised e s).andThen f = .raised e s := rfl

@[simp] theorem Result.state_ok {α : Type} (v : α) (s : State) : (Result.ok v s).state = s := rfl
@[simp] theorem Result.state_raised {α : Type} (e : ErrorKind) (s : State) : (Result.raised e s : Result α).state = s := rfl
@[simp] theorem Result.error_ok {α : Type} (v : α) (s : State) : (Result.ok v s).error = none := rfl
@[simp] theorem Result.error_raised {α : Type} (e : ErrorKind) (s : State) :
    (Result.raised e s : Result α).error = some e := rfl

@[simp] theorem require_true (e : ErrorKind) (s : State) : require true e s = .ok () s := rfl
@[simp] theorem require_false (e : ErrorKind) (s : State) : require false e s = .raised e s := rfl

/-- A precondition passes and changes nothing, or raises its error and changes nothing. -/
theorem require_cases (c : Bool) (e : ErrorKind) (s : State) :
    (c = true ∧ require c e s = .ok () s) ∨ (c = false ∧ require c e s = .raised e s) := by
  cases c
  · exact .inr ⟨rfl, rfl⟩
  · exact .inl ⟨rfl, rfl⟩

@[simp] theorem returnZero_ok (s : State) : returnZero (.ok () s) = .ok (some 0) s := rfl
@[simp] theorem returnZero_raised (e : ErrorKind) (s : State) : returnZero (.raised e s) = .raised e s := rfl

/-! ### Accesses -/

theorem regWrite_done {r : TimerReg} {v : Word} {s : State} {d : Half} (h : s.answer 0 = .done d) :
    regWrite r v s = .ok () (s.issued [.write32 (regAddr s.platform r) v true]) := by
  simp [regWrite, h, State.issued, State.emit, State.answered]

theorem regWrite_failed {r : TimerReg} {v : Word} {s : State} (h : s.answer 0 = .failed) :
    regWrite r v s = .raised .ioError (s.issued [.write32 (regAddr s.platform r) v false]) := by
  simp [regWrite, h, State.issued, State.emit, State.answered]

/-- A register write succeeds, or fails with IOError; both leave its event and use one answer. -/
theorem regWrite_cases (r : TimerReg) (v : Word) (s : State) :
    ((∃ d, s.answer 0 = .done d) ∧ regWrite r v s = .ok () (s.issued [.write32 (regAddr s.platform r) v true])) ∨
    (s.answer 0 = .failed ∧
      regWrite r v s = .raised .ioError (s.issued [.write32 (regAddr s.platform r) v false])) := by
  cases h : s.answer 0 with
  | done d => exact .inl ⟨⟨d, rfl⟩, regWrite_done h⟩
  | failed => exact .inr ⟨rfl, regWrite_failed h⟩

theorem muxRead_done {s : State} {v : Half} (h : s.answer 0 = .done v) :
    muxRead s = .ok v (s.issued [.read16 s.platform.muxOff (some v)]) := by
  simp [muxRead, h, State.issued, State.emit, State.answered]

theorem muxRead_failed {s : State} (h : s.answer 0 = .failed) :
    muxRead s = .raised .ioError (s.issued [.read16 s.platform.muxOff none]) := by
  simp [muxRead, h, State.issued, State.emit, State.answered]

theorem muxWrite_done {s : State} {v d : Half} (h : s.answer 0 = .done d) :
    muxWrite v s = .ok () (s.issued [.write16 s.platform.muxOff v true]) := by
  simp [muxWrite, h, State.issued, State.emit, State.answered]

theorem muxWrite_failed {s : State} {v : Half} (h : s.answer 0 = .failed) :
    muxWrite v s = .raised .ioError (s.issued [.write16 s.platform.muxOff v false]) := by
  simp [muxWrite, h, State.issued, State.emit, State.answered]

/-- A mux write succeeds, or fails with IOError. -/
theorem muxWrite_cases (v : Half) (s : State) :
    ((∃ d, s.answer 0 = .done d) ∧ muxWrite v s = .ok () (s.issued [.write16 s.platform.muxOff v true])) ∨
    (s.answer 0 = .failed ∧ muxWrite v s = .raised .ioError (s.issued [.write16 s.platform.muxOff v false])) := by
  cases h : s.answer 0 with
  | done d => exact .inl ⟨⟨d, rfl⟩, muxWrite_done h⟩
  | failed => exact .inr ⟨rfl, muxWrite_failed h⟩

/-! ### enable_mux -/

/-- Everything enable_mux can do (R152): nothing once the mux is saved; save it; or fail at its read or its write and
commit nothing. -/
theorem enableMux_cases (s : State) :
    (s.regs.muxSaved = true ∧ enableMux s = .ok () s) ∨
    (s.regs.muxSaved = false ∧ ∃ v, s.answer 0 = .done v ∧ (∃ d, s.answer 1 = .done d) ∧
      enableMux s = .ok () ((s.issued [.read16 s.platform.muxOff (some v),
        .write16 s.platform.muxOff (muxValue s.platform.muxFn v) true]).commit (Regs.saveMux v))) ∨
    (s.regs.muxSaved = false ∧ s.answer 0 = .failed ∧
      enableMux s = .raised .ioError (s.issued [.read16 s.platform.muxOff none])) ∨
    (s.regs.muxSaved = false ∧ ∃ v, s.answer 0 = .done v ∧ s.answer 1 = .failed ∧
      enableMux s = .raised .ioError (s.issued [.read16 s.platform.muxOff (some v),
        .write16 s.platform.muxOff (muxValue s.platform.muxFn v) false])) := by
  cases hm : s.regs.muxSaved with
  | true => exact .inl ⟨rfl, by simp [enableMux, hm]⟩
  | false =>
    right
    cases h0 : s.answer 0 with
    | failed => exact .inr (.inl ⟨rfl, rfl, by simp [enableMux, hm, muxRead_failed h0]⟩)
    | done v =>
      have hr := muxRead_done h0
      have h1' : (s.issued [.read16 s.platform.muxOff (some v)]).answer 0 = s.answer 1 := by simp
      cases h1 : s.answer 1 with
      | done d =>
        refine .inl ⟨rfl, v, rfl, ⟨d, rfl⟩, ?_⟩
        simp [enableMux, hm, hr, muxWrite_done (h1'.trans h1)]
      | failed =>
        refine .inr (.inr ⟨rfl, v, rfl, rfl, ?_⟩)
        simp [enableMux, hm, hr, muxWrite_failed (h1'.trans h1)]

/-- Where both mux accesses succeed, enable_mux leaves the events `muxEvents` and the registers `muxRegs`. -/
theorem enableMux_accepts {s : State} (h : s.accepts (muxAnswers s)) :
    (muxEvents s).length = muxAnswers s ∧ enableMux s = .ok () ((s.issued (muxEvents s)).commit fun _ => muxRegs s) := by
  rcases enableMux_cases s with ⟨hm, he⟩ | ⟨hm, v, h0, -, he⟩ | ⟨hm, h0, -⟩ | ⟨hm, v, -, h1, -⟩
  · simp [he, muxEvents, muxAnswers, muxRegs, hm, State.commit]
  · simp [he, muxEvents, muxAnswers, muxRegs, hm, h0, State.commit, Regs.saveMux]
  · have := h 0 (by simp [muxAnswers, hm])
    simp [h0, succeeded] at this
  · have := h 1 (by simp [muxAnswers, hm])
    simp [h1, succeeded] at this

/-! ### The prelude -/

/-- DETACHED answers StateError and runs no body (R151). -/
theorem command_detached (op : BitVec 8) (body : State → Result (Option Word)) (s : State)
    (h : s.regs.detached = true) : command op body s = s.emit (.response ⟨op, .error .stateError, 0⟩) := by
  simp [command, h, takeError, respond]

/-- A body that returns a value is answered OK with it. -/
theorem command_ok {op : BitVec 8} {body : State → Result (Option Word)} {s t : State} {v : Word}
    (h : s.regs.detached = false) (hb : body s = .ok (some v) t) :
    command op body s = t.emit (.response ⟨op, .ok, v⟩) := by
  simp [command, h, hb, respond]

/-- A body that returns with no response due is not answered. -/
theorem command_deferred {op : BitVec 8} {body : State → Result (Option Word)} {s t : State}
    (h : s.regs.detached = false) (hb : body s = .ok none t) : command op body s = t := by
  simp [command, h, hb]

/-- A body that raises is answered with its error and value 0. -/
theorem command_raised {op : BitVec 8} {body : State → Result (Option Word)} {s t : State} {e : ErrorKind}
    (h : s.regs.detached = false) (hb : body s = .raised e t) :
    command op body s = t.emit (.response ⟨op, .error e, 0⟩) := by
  simp [command, h, hb, takeError, respond]

end Sys2Proof.Machine
end

