-- ==== Sys2Proof/Laws/Controller.lean ====
section
/-! SUPPORT. Laws/Controller.lean: what the controller's shared operations do where the environment accepts their
accesses, and where it does not. -/

namespace Sys2Proof.Machine

/-- An accepted access is answered `done`. -/
theorem State.accepts_done {s : State} {n k : Nat} (h : s.accepts n) (hk : k < n) : ∃ d, s.answer k = .done d := by
  have := h k hk
  cases ha : s.answer k with
  | failed => simp [ha, succeeded] at this
  | done d => exact ⟨d, rfl⟩

theorem State.accepts_mono {s : State} {m n : Nat} (h : s.accepts n) (hmn : m ≤ n) : s.accepts m :=
  fun k hk => h k (Nat.lt_of_lt_of_le hk hmn)

@[simp] theorem muxRegs_flags (s : State) : (muxRegs s).flags = s.regs.flags := by
  unfold muxRegs; split
  · rfl
  · split <;> rfl

@[simp] theorem muxRegs_matchValue (s : State) : (muxRegs s).matchValue = s.regs.matchValue := by
  unfold muxRegs; split
  · rfl
  · split <;> rfl

@[simp] theorem muxRegs_reloadValue (s : State) : (muxRegs s).reloadValue = s.regs.reloadValue := by
  unfold muxRegs; split
  · rfl
  · split <;> rfl

@[simp] theorem muxRegs_configured (s : State) : (muxRegs s).configured = s.regs.configured := by
  unfold muxRegs; split
  · rfl
  · split <;> rfl

/-- Once both mux accesses are accepted the mux counts as saved. -/
theorem muxRegs_muxSaved {s : State} (h : s.accepts (muxAnswers s)) : (muxRegs s).muxSaved = true := by
  unfold muxRegs
  split
  · assumption
  · rename_i hm
    obtain ⟨d, hd⟩ := State.accepts_done h (k := 0) (by simp [muxAnswers, hm])
    simp [hd]

/-- One accepted register write after accepted accesses `es`. -/
theorem regWrite_accepted {s : State} {n : Nat} (h : s.accepts n) (es : List Event) (f : Regs → Regs)
    (hn : es.length < n) (r : TimerReg) (v : Word) :
    regWrite r v ((s.issued es).commit f) =
      .ok () ((s.issued (es ++ [.write32 (regAddr s.platform r) v true])).commit f) := by
  obtain ⟨d, hd⟩ := State.accepts_done h hn
  rw [regWrite_done (d := d) (by simpa using hd)]
  simp

/-- A register write that fails after accepted accesses `es`. -/
theorem regWrite_rejected {s : State} (es : List Event) (f : Regs → Regs) (h : s.answer es.length = .failed)
    (r : TimerReg) (v : Word) :
    regWrite r v ((s.issued es).commit f) =
      .raised .ioError ((s.issued (es ++ [.write32 (regAddr s.platform r) v false])).commit f) := by
  rw [regWrite_failed (by simpa using h)]
  simp

/-- enable_mux whose read fails. -/
theorem enableMux_read_rejected {s : State} (hm : s.regs.muxSaved = false) (h : s.answer 0 = .failed) :
    enableMux s = .raised .ioError (s.issued [.read16 s.platform.muxOff none]) := by
  simp [enableMux, hm, muxRead_failed h]

/-- enable_mux whose write fails. -/
theorem enableMux_write_rejected {s : State} {v : Half} (hm : s.regs.muxSaved = false) (h0 : s.answer 0 = .done v)
    (h1 : s.answer 1 = .failed) :
    enableMux s = .raised .ioError (s.issued [.read16 s.platform.muxOff (some v),
      .write16 s.platform.muxOff (muxValue s.platform.muxFn v) false]) := by
  have h : (s.issued [.read16 s.platform.muxOff (some v)]).answer 0 = .failed := by simpa using h1
  simp [enableMux, hm, muxRead_done h0, muxWrite_failed h]

/-- opWriteFlags with every access accepted (R154, R163, R165): one control write, and the flags. -/
theorem opWriteFlags_accepts {s : State} (f : Flags) (h : s.accepts (muxAnswers s + 1)) :
    opWriteFlags f s = .ok () ((s.issued (muxEvents s ++ [.write32 (regAddr s.platform .ctrl) (ctrlWord f) true])).commit
      fun _ => { muxRegs s with flags := f }) := by
  obtain ⟨hl, he⟩ := enableMux_accepts (State.accepts_mono h (Nat.le_succ _))
  simp only [opWriteFlags, he, Result.andThen_ok]
  rw [regWrite_accepted h _ _ (by omega)]
  simp [Regs.setFlags]

/-- op_configure_frequency with every access accepted (R155). -/
theorem opConfigureFrequency_accepts {s : State} (req : Int) (hf : clampFreq s.platform req ≠ 0)
    (h : s.accepts (muxAnswers s + 2)) :
    opConfigureFrequency req s = .ok () ((s.issued (muxEvents s ++
      [.write32 (regAddr s.platform .reload) (asU32 (computeReload (clampFreq s.platform req) s.platform.inputFreq)) true,
       .write32 (regAddr s.platform .counter) (asU32 (computeReload (clampFreq s.platform req) s.platform.inputFreq))
         true])).commit fun _ =>
        { muxRegs s with
          reloadValue := asU32 (computeReload (clampFreq s.platform req) s.platform.inputFreq)
          frequency := asU32 (clampFreq s.platform req)
          configured := true }) := by
  obtain ⟨hl, he⟩ := enableMux_accepts (State.accepts_mono h (Nat.le_add_right _ 2))
  have hd : decide (clampFreq s.platform req ≠ 0) = true := by simpa using hf
  simp only [opConfigureFrequency, hd, require_true, he, Result.andThen_ok]
  rw [regWrite_accepted h _ _ (by omega)]
  simp only [Result.andThen_ok]
  rw [regWrite_accepted h _ _ (by simp; omega)]
  simp [Regs.commitFrequency]

/-- A frequency that clamps to 0 raises ConfigError before any access (R155). -/
theorem opConfigureFrequency_zero {s : State} (req : Int) (hf : clampFreq s.platform req = 0) :
    opConfigureFrequency req s = .raised .configError s := by
  simp [opConfigureFrequency, hf]

/-- op_set_duty_cycle(0) is op_turn_off (R157). -/
theorem opSetDutyCycle_zero (s : State) : opSetDutyCycle 0 s = opTurnOff s := by
  simp only [opSetDutyCycle, opTurnOff, opWriteFlags, computeMatch]
  rcases enableMux_cases s with ⟨-, he⟩ | ⟨-, v, -, -, he⟩ | ⟨-, -, he⟩ | ⟨-, v, -, -, he⟩ <;> simp [he]
  · rcases regWrite_cases .ctrl (ctrlWord s.regs.flags.stop) s with ⟨-, hw⟩ | ⟨-, hw⟩ <;> simp [hw]
  · generalize hs : State.commit _ _ = s1
    have hf : s1.regs.flags = s.regs.flags := by simp [← hs]
    rcases regWrite_cases .ctrl (ctrlWord s.regs.flags.stop) s1 with ⟨-, hw⟩ | ⟨-, hw⟩ <;> simp [hw, hf]

/-- op_set_duty_cycle of a nonzero percentage with every access accepted (R157): forced OFF, match, back ON. -/
theorem opSetDutyCycle_accepts {s : State} {p m : Int} (h1 : 1 ≤ p) (h100 : p ≤ 100) (hc : s.regs.configured = true)
    (hn : numCounts (zext32 s.regs.reloadValue) ≠ 0)
    (hm : computeMatch p (zext32 s.regs.reloadValue) (numCounts (zext32 s.regs.reloadValue)) = some m)
    (h : s.accepts (muxAnswers s + 3)) :
    opSetDutyCycle p s = .ok () ((s.issued (muxEvents s ++
      [.write32 (regAddr s.platform .ctrl) (ctrlWord s.regs.flags.stop) true,
       .write32 (regAddr s.platform .matchReg) (asU32 m) true,
       .write32 (regAddr s.platform .ctrl) (ctrlWord s.regs.flags.start) true])).commit fun _ =>
        { muxRegs s with matchValue := asU32 m, flags := s.regs.flags.start }) := by
  obtain ⟨hl, he⟩ := enableMux_accepts (State.accepts_mono h (Nat.le_add_right _ 3))
  have hr : (decide (0 ≤ p) && decide (p ≤ 100)) = true := by simp; omega
  have hn' : (decide (p = 0) || decide (numCounts (zext32 s.regs.reloadValue) ≠ 0)) = true := by simp [hn]
  simp only [opSetDutyCycle, hr, hn', hc, Bool.or_true, require_true, he, Result.andThen_ok]
  rw [regWrite_accepted h _ _ (by omega)]
  simp only [Result.andThen_ok, hm, State.commit_regs, muxRegs_flags]
  rw [regWrite_accepted h _ _ (by simp; omega)]
  simp only [Result.andThen_ok, State.commit_regs, muxRegs_flags]
  rw [regWrite_accepted h _ _ (by simp; omega)]
  simp [Regs.commitDuty]

/-- ON with every access accepted (R159). -/
theorem bodyOn_accepts {s : State} (hc : s.regs.configured = true) (hr : s.regs.matchOk = true)
    (h : s.accepts (muxAnswers s + 2)) :
    bodyOn s = .ok () ((s.issued (muxEvents s ++
      [.write32 (regAddr s.platform .matchReg) s.regs.matchValue true,
       .write32 (regAddr s.platform .ctrl) (ctrlWord s.regs.flags.start) true])).commit fun _ =>
        { muxRegs s with flags := s.regs.flags.start }) := by
  obtain ⟨hl, he⟩ := enableMux_accepts (State.accepts_mono h (Nat.le_add_right _ 2))
  simp only [bodyOn, hc, hr, require_true, he, Result.andThen_ok, State.commit_regs, muxRegs_matchValue]
  rw [regWrite_accepted h _ _ (by omega)]
  simp only [Result.andThen_ok, State.commit_regs, muxRegs_flags]
  rw [regWrite_accepted h _ _ (by simp; omega)]
  simp [Regs.setFlags]

/-! ### Everything an operation can do -/

/-- What an operation that raised IOError leaves: accesses up to the one that failed, and no commit but enable_mux's
(R15, R152). -/
def AbortedAt (s t : State) : Prop :=
  ∃ pre x, (∀ y ∈ pre, y.failed = false) ∧ x.failed = true ∧ s.accepts pre.length ∧ s.answer pre.length = .failed ∧
    (t = s.issued (pre ++ [x]) ∨
      ∃ v, s.regs.muxSaved = false ∧ s.answer 0 = .done v ∧ t = (s.issued (pre ++ [x])).commit (Regs.saveMux v))

/-- What a prefix of an operation leaves: accepted accesses, and no commit but enable_mux's. -/
def GoneOn (s t : State) : Prop :=
  ∃ pre, (∀ y ∈ pre, y.failed = false) ∧ s.accepts pre.length ∧
    (t = s.issued pre ∨
      ∃ v, s.regs.muxSaved = false ∧ s.answer 0 = .done v ∧ t = (s.issued pre).commit (Regs.saveMux v))

theorem GoneOn.refl (s : State) : GoneOn s s := ⟨[], by simp, by simp [State.accepts], .inl (by simp)⟩

theorem GoneOn.platform {s t : State} (h : GoneOn s t) : t.platform = s.platform := by
  obtain ⟨pre, -, -, rfl | ⟨v, -, -, rfl⟩⟩ := h <;> rfl

theorem GoneOn.flags {s t : State} (h : GoneOn s t) : t.regs.flags = s.regs.flags := by
  obtain ⟨pre, -, -, rfl | ⟨v, -, -, rfl⟩⟩ := h <;> rfl

theorem GoneOn.mem {s t : State} (h : GoneOn s t) : t.mem = s.mem := by
  obtain ⟨pre, -, -, rfl | ⟨v, -, -, rfl⟩⟩ := h <;> rfl

theorem GoneOn.inputs {s t : State} (h : GoneOn s t) : t.inputs = s.inputs ∧ t.inputNo = s.inputNo := by
  obtain ⟨pre, -, -, rfl | ⟨v, -, -, rfl⟩⟩ := h <;> exact ⟨rfl, rfl⟩

theorem GoneOn.trace {s t : State} (h : GoneOn s t) :
    ∃ pre, t.trace = s.trace ++ pre ∧ ∀ y ∈ pre, y.failed = false := by
  obtain ⟨pre, hp, -, rfl | ⟨v, -, -, rfl⟩⟩ := h <;> exact ⟨pre, rfl, hp⟩

theorem GoneOn.regs {s t : State} (h : GoneOn s t) :
    t.regs = s.regs ∨ ∃ v, s.regs.muxSaved = false ∧ s.answer 0 = .done v ∧ t.regs = s.regs.saveMux v := by
  obtain ⟨pre, -, -, rfl | ⟨v, h1, h2, rfl⟩⟩ := h
  · exact .inl rfl
  · exact .inr ⟨v, h1, h2, rfl⟩

theorem AbortedAt.platform {s t : State} (h : AbortedAt s t) : t.platform = s.platform := by
  obtain ⟨pre, x, -, -, -, -, rfl | ⟨v, -, -, rfl⟩⟩ := h <;> rfl

theorem AbortedAt.mem {s t : State} (h : AbortedAt s t) : t.mem = s.mem := by
  obtain ⟨pre, x, -, -, -, -, rfl | ⟨v, -, -, rfl⟩⟩ := h <;> rfl

theorem AbortedAt.inputs {s t : State} (h : AbortedAt s t) : t.inputs = s.inputs ∧ t.inputNo = s.inputNo := by
  obtain ⟨pre, x, -, -, -, -, rfl | ⟨v, -, -, rfl⟩⟩ := h <;> exact ⟨rfl, rfl⟩

theorem AbortedAt.trace {s t : State} (h : AbortedAt s t) :
    ∃ pre x, t.trace = s.trace ++ (pre ++ [x]) ∧ x.failed = true ∧ ∀ y ∈ pre, y.failed = false := by
  obtain ⟨pre, x, hp, hx, -, -, rfl | ⟨v, -, -, rfl⟩⟩ := h <;> exact ⟨pre, x, rfl, hx, hp⟩

theorem AbortedAt.regs {s t : State} (h : AbortedAt s t) :
    t.regs = s.regs ∨ ∃ v, s.regs.muxSaved = false ∧ s.answer 0 = .done v ∧ t.regs = s.regs.saveMux v := by
  obtain ⟨pre, x, -, -, -, -, rfl | ⟨v, h1, h2, rfl⟩⟩ := h
  · exact .inl rfl
  · exact .inr ⟨v, h1, h2, rfl⟩

/-- One more accepted access. -/
theorem State.accepts_succ {s : State} {n : Nat} {d : Half} (h : s.accepts n) (hd : s.answer n = .done d) :
    s.accepts (n + 1) := by
  intro k hk
  rcases Nat.lt_succ_iff_lt_or_eq.1 hk with hk | rfl
  · exact h k hk
  · simp [hd, succeeded]

/-- A register write after a prefix: it goes on, or aborts the operation there. -/
theorem GoneOn.regWrite {s t : State} (h : GoneOn s t) (r : TimerReg) (v : Word) :
    (∃ u, GoneOn s u ∧ u.regs = t.regs ∧ u.trace = t.trace ++ [.write32 (regAddr s.platform r) v true] ∧
      regWrite r v t = .ok () u) ∨
    (∃ u, AbortedAt s u ∧ u.trace = t.trace ++ [.write32 (regAddr s.platform r) v false] ∧
      regWrite r v t = .raised .ioError u) := by
  have hp := h.platform
  have key : ∀ pre : List Event, (∀ y ∈ pre, y.failed = false) →
      ∀ y ∈ pre ++ [.write32 (regAddr s.platform r) v true], y.failed = false := by
    intro pre hpre y hy
    rcases List.mem_append.1 hy with hy | hy
    · exact hpre y hy
    · obtain rfl := List.mem_singleton.1 hy
      rfl
  obtain ⟨pre, hpre, ha, hc⟩ := h
  have hans : t.answer 0 = s.answer pre.length := by
    rcases hc with rfl | ⟨v, -, -, rfl⟩ <;> simp
  rcases regWrite_cases r v t with ⟨⟨d, hd⟩, hw⟩ | ⟨hd, hw⟩ <;> rw [hp] at hw <;> rw [hans] at hd
  · refine .inl ⟨_, ⟨pre ++ [.write32 (regAddr s.platform r) v true], key pre hpre, ?_, ?_⟩, by simp, by simp, hw⟩
    · simpa using State.accepts_succ ha hd
    · rcases hc with rfl | ⟨w, h1, h2, rfl⟩
      · exact .inl (by simp)
      · exact .inr ⟨w, h1, h2, by simp⟩
  · refine .inr ⟨_, ⟨pre, .write32 (regAddr s.platform r) v false, hpre, rfl, ha, hd, ?_⟩, by simp, hw⟩
    rcases hc with rfl | ⟨w, h1, h2, rfl⟩
    · exact .inl (by simp)
    · exact .inr ⟨w, h1, h2, by simp⟩

/-- enable_mux goes on with the mux saved, or aborts the operation. -/
theorem enableMux_outcome (s : State) :
    (∃ t, GoneOn s t ∧ t.regs.muxSaved = true ∧ s.accepts (muxAnswers s) ∧ t.regs = muxRegs s ∧
      t.trace = s.trace ++ muxEvents s ∧ enableMux s = .ok () t) ∨
    (∃ t, AbortedAt s t ∧ t.regs = s.regs ∧ s.regs.muxSaved = false ∧
      (t.trace = s.trace ++ [.read16 s.platform.muxOff none] ∨
        ∃ v, t.trace = s.trace ++ [.read16 s.platform.muxOff (some v),
          .write16 s.platform.muxOff (muxValue s.platform.muxFn v) false]) ∧
      enableMux s = .raised .ioError t) := by
  rcases enableMux_cases s with ⟨hm, he⟩ | ⟨hm, v, h0, ⟨d, h1⟩, he⟩ | ⟨hm, h0, he⟩ | ⟨hm, v, h0, h1, he⟩
  · exact .inl ⟨s, .refl s, hm, by simp [State.accepts, muxAnswers, hm], by simp [muxRegs, hm],
      by simp [muxEvents, hm], he⟩
  · have h2 : s.accepts 2 := State.accepts_succ (State.accepts_succ (fun k hk => by omega) h0) h1
    refine .inl ⟨_, ⟨[.read16 s.platform.muxOff (some v),
      .write16 s.platform.muxOff (muxValue s.platform.muxFn v) true], ?_, h2, .inr ⟨v, hm, h0, rfl⟩⟩, rfl, by simpa [muxAnswers, hm] using h2, ?_, ?_, he⟩
    · simp [Event.failed]
    · simp [muxRegs, hm, h0, Regs.saveMux]
    · simp [muxEvents, hm, h0]
  · exact .inr ⟨_, ⟨[], _, by simp, rfl, fun k hk => by simp at hk, h0, .inl rfl⟩, rfl, hm, .inl rfl, he⟩
  · refine .inr ⟨_, ⟨[_], _, ?_, ?_, State.accepts_succ (fun k hk => by simp at hk) h0, h1, .inl rfl⟩, rfl, hm,
      .inr ⟨v, rfl⟩, he⟩ <;> simp [Event.failed]

/-- Everything opWriteFlags can do: the flags are written and committed, or the operation aborts. -/
theorem opWriteFlags_outcome (f : Flags) (s : State) :
    (∃ t, GoneOn s t ∧ s.accepts (muxAnswers s) ∧ t.regs = muxRegs s ∧
      t.trace = s.trace ++ muxEvents s ++ [.write32 (regAddr s.platform .ctrl) (ctrlWord f) true] ∧
      opWriteFlags f s = .ok () (t.commit (Regs.setFlags f))) ∨
    (∃ t, AbortedAt s t ∧ opWriteFlags f s = .raised .ioError t) := by
  rcases enableMux_outcome s with ⟨t, ht, -, ha, hr, htr, he⟩ | ⟨t, ht, -, -, -, he⟩
  · rcases ht.regWrite .ctrl (ctrlWord f) with ⟨u, hu, hur, hut, hw⟩ | ⟨u, hu, -, hw⟩
    · exact .inl ⟨u, hu, ha, hur.trans hr, by rw [hut, htr], by simp [opWriteFlags, he, hw]⟩
    · exact .inr ⟨u, hu, by simp [opWriteFlags, he, hw]⟩
  · exact .inr ⟨t, ht, by simp [opWriteFlags, he]⟩

/-- Everything op_configure_frequency can do (R155). -/
theorem opConfigureFrequency_outcome (req : Int) (s : State) :
    let f := clampFreq s.platform req
    let r := asU32 (computeReload f s.platform.inputFreq)
    (f = 0 ∧ opConfigureFrequency req s = .raised .configError s) ∨
    (f ≠ 0 ∧ ∃ t, GoneOn s t ∧ s.accepts (muxAnswers s) ∧ t.regs = muxRegs s ∧
      t.trace = s.trace ++ muxEvents s ++
        [.write32 (regAddr s.platform .reload) r true, .write32 (regAddr s.platform .counter) r true] ∧
      opConfigureFrequency req s = .ok () (t.commit (Regs.commitFrequency r (asU32 f)))) ∨
    (f ≠ 0 ∧ ∃ t, AbortedAt s t ∧ opConfigureFrequency req s = .raised .ioError t) := by
  intro f r
  by_cases hf : f = 0
  · exact .inl ⟨hf, opConfigureFrequency_zero req hf⟩
  have hd : decide (clampFreq s.platform req ≠ 0) = true := by simpa using hf
  right
  rcases enableMux_outcome s with ⟨t, ht, -, ha, hr, htr, he⟩ | ⟨t, ht, -, -, -, he⟩
  · rcases ht.regWrite .reload r with ⟨u, hu, hur, hut, hw⟩ | ⟨u, hu, -, hw⟩
    · rcases hu.regWrite .counter r with ⟨w, hw', hwr, hwt, hw2⟩ | ⟨w, hw', -, hw2⟩
      · refine .inl ⟨hf, w, hw', ha, (hwr.trans hur).trans hr, ?_, ?_⟩
        · rw [hwt, hut, htr]; simp
        · simp only [opConfigureFrequency, hd, require_true, Result.andThen_ok, he]
          simp only [r] at hw hw2 ⊢
          simp [f] at hw hw2 ⊢
          simp [hw, hw2]
      · refine .inr ⟨hf, w, hw', ?_⟩
        simp only [opConfigureFrequency, hd, require_true, Result.andThen_ok, he]
        simp only [r, f] at hw hw2
        simp [hw, hw2]
    · refine .inr ⟨hf, u, hu, ?_⟩
      simp only [opConfigureFrequency, hd, require_true, Result.andThen_ok, he]
      simp only [r, f] at hw
      simp [hw]
  · exact .inr ⟨hf, t, ht, by
      simp only [opConfigureFrequency, hd, require_true, Result.andThen_ok, he, Result.andThen_raised]⟩

/-- opWriteFlags succeeds only where every access is accepted. -/
theorem opWriteFlags_ok_accepts {f : Flags} {s t : State} (h : opWriteFlags f s = .ok () t) :
    s.accepts (muxAnswers s + 1) := by
  simp only [opWriteFlags] at h
  rcases enableMux_outcome s with ⟨u, -, -, ha, -, -, -⟩ | ⟨u, -, -, -, -, he⟩
  · obtain ⟨hl, he⟩ := enableMux_accepts ha
    rw [he, Result.andThen_ok] at h
    rcases regWrite_cases .ctrl (ctrlWord f) ((s.issued (muxEvents s)).commit fun _ => muxRegs s) with
      ⟨⟨d, hd⟩, -⟩ | ⟨-, hw⟩
    · exact State.accepts_succ ha (d := d) (by simpa [hl] using hd)
    · rw [hw] at h; cases h
  · rw [he] at h; cases h

/-- op_configure_frequency succeeds only where the frequency is nonzero and every access is accepted. -/
theorem opConfigureFrequency_ok_accepts {req : Int} {s t : State} (h : opConfigureFrequency req s = .ok () t) :
    clampFreq s.platform req ≠ 0 ∧ s.accepts (muxAnswers s + 2) := by
  by_cases hf : clampFreq s.platform req = 0
  · rw [opConfigureFrequency_zero req hf] at h; cases h
  refine ⟨hf, ?_⟩
  have hd : decide (clampFreq s.platform req ≠ 0) = true := by simpa using hf
  simp only [opConfigureFrequency, hd, require_true, Result.andThen_ok] at h
  generalize asU32 (computeReload (clampFreq s.platform req) s.platform.inputFreq) = r at h
  rcases enableMux_outcome s with ⟨u, -, -, ha, -, -, -⟩ | ⟨u, -, -, -, -, he⟩
  · obtain ⟨hl, he⟩ := enableMux_accepts ha
    rw [he, Result.andThen_ok] at h
    rcases regWrite_cases .reload r ((s.issued (muxEvents s)).commit fun _ => muxRegs s) with ⟨⟨d, hd⟩, -⟩ | ⟨-, hw⟩
    · have h1 : s.accepts (muxAnswers s + 1) := State.accepts_succ ha (d := d) (by simpa [hl] using hd)
      rw [regWrite_accepted h1 _ _ (by omega), Result.andThen_ok] at h
      rcases regWrite_cases .counter r
        ((s.issued (muxEvents s ++ [.write32 (regAddr s.platform .reload) r true])).commit fun _ => muxRegs s) with
        ⟨⟨d, hd⟩, -⟩ | ⟨-, hw⟩
      · exact State.accepts_succ h1 (d := d) (by simpa [hl] using hd)
      · rw [hw] at h; cases h
    · rw [hw] at h; cases h
  · rw [he] at h; cases h

/-- Everything op_set_duty_cycle can do for a nonzero percentage (R157); for 0 see `opSetDutyCycle_zero`. -/
theorem opSetDutyCycle_outcome (p : Int) (s : State) (hp : p ≠ 0) :
    ((p < 0 ∨ 100 < p) ∧ opSetDutyCycle p s = .raised .configError s) ∨
    (0 ≤ p ∧ p ≤ 100 ∧ s.regs.configured = false ∧ opSetDutyCycle p s = .raised .stateError s) ∨
    (0 ≤ p ∧ p ≤ 100 ∧ s.regs.configured = true ∧ numCounts (zext32 s.regs.reloadValue) = 0 ∧
      opSetDutyCycle p s = .raised .configError s) ∨
    (0 ≤ p ∧ p ≤ 100 ∧ s.regs.configured = true ∧ numCounts (zext32 s.regs.reloadValue) ≠ 0 ∧
      ∃ m, computeMatch p (zext32 s.regs.reloadValue) (numCounts (zext32 s.regs.reloadValue)) = some m ∧
        ((∃ t, GoneOn s t ∧ s.accepts (muxAnswers s) ∧ t.regs = muxRegs s ∧
          t.trace = s.trace ++ muxEvents s ++
            [.write32 (regAddr s.platform .ctrl) (ctrlWord s.regs.flags.stop) true,
             .write32 (regAddr s.platform .matchReg) (asU32 m) true,
             .write32 (regAddr s.platform .ctrl) (ctrlWord s.regs.flags.start) true] ∧
          opSetDutyCycle p s = .ok () (t.commit (Regs.commitDuty (asU32 m)))) ∨
        (∃ t, AbortedAt s t ∧ opSetDutyCycle p s = .raised .ioError t))) := by
  by_cases hr : 0 ≤ p ∧ p ≤ 100
  swap
  · have hd : (decide (0 ≤ p) && decide (p ≤ 100)) = false := by simp; omega
    exact .inl ⟨by omega, by simp [opSetDutyCycle, hd]⟩
  obtain ⟨h0, h100⟩ := hr
  have hd : (decide (0 ≤ p) && decide (p ≤ 100)) = true := by simp; omega
  right
  cases hc : s.regs.configured with
  | false => exact .inl ⟨h0, h100, rfl, by simp [opSetDutyCycle, hd, hc, hp]⟩
  | true =>
    right
    by_cases hn : numCounts (zext32 s.regs.reloadValue) = 0
    · exact .inl ⟨h0, h100, rfl, hn, by simp [opSetDutyCycle, hd, hc, hp, hn]⟩
    refine .inr ⟨h0, h100, rfl, hn, ?_⟩
    obtain ⟨m, hm⟩ : ∃ m, computeMatch p (zext32 s.regs.reloadValue) (numCounts (zext32 s.regs.reloadValue)) = some m :=
      ⟨_, by simp [computeMatch, hp]; rfl⟩
    refine ⟨m, hm, ?_⟩
    have hn' : (decide (p = 0) || decide (numCounts (zext32 s.regs.reloadValue) ≠ 0)) = true := by simp [hn]
    simp only [opSetDutyCycle, hd, hn', hc, Bool.or_true, require_true, Result.andThen_ok]
    rcases enableMux_outcome s with ⟨t, ht, -, ha, hr, htr, he⟩ | ⟨t, ht, -, -, -, he⟩
    swap
    · exact .inr ⟨t, ht, by simp [he]⟩
    have hf := ht.flags
    simp only [he, Result.andThen_ok, hm, hf]
    rcases ht.regWrite .ctrl (ctrlWord s.regs.flags.stop) with ⟨u, hu, hur, hut, hw⟩ | ⟨u, hu, -, hw⟩
    swap
    · exact .inr ⟨u, hu, by simp [hw]⟩
    simp only [hw, Result.andThen_ok]
    rcases hu.regWrite .matchReg (asU32 m) with ⟨w, hw1, hwr, hwt, hw2⟩ | ⟨w, hw1, -, hw2⟩
    swap
    · exact .inr ⟨w, hw1, by simp [hw2]⟩
    have hf2 := hw1.flags
    simp only [hw2, Result.andThen_ok, hf2]
    rcases hw1.regWrite .ctrl (ctrlWord s.regs.flags.start) with ⟨x, hx, hxr, hxt, hx2⟩ | ⟨x, hx, -, hx2⟩
    swap
    · exact .inr ⟨x, hx, by simp [hx2]⟩
    exact .inl ⟨x, hx, ha, hxr.trans (hwr.trans (hur.trans hr)), by rw [hxt, hwt, hut, htr]; simp, by simp [hx2]⟩

/-- Everything ON's body can do (R159). -/
theorem bodyOn_outcome (s : State) :
    (s.regs.configured = false ∧ bodyOn s = .raised .stateError s) ∨
    (s.regs.configured = true ∧ s.regs.matchOk = false ∧ bodyOn s = .raised .configError s) ∨
    (s.regs.configured = true ∧ s.regs.matchOk = true ∧
      ((∃ t, GoneOn s t ∧ s.accepts (muxAnswers s) ∧ t.regs = muxRegs s ∧
        t.trace = s.trace ++ muxEvents s ++
          [.write32 (regAddr s.platform .matchReg) s.regs.matchValue true,
           .write32 (regAddr s.platform .ctrl) (ctrlWord s.regs.flags.start) true] ∧
        bodyOn s = .ok () (t.commit (Regs.setFlags s.regs.flags.start))) ∨
      (∃ t, AbortedAt s t ∧ bodyOn s = .raised .ioError t))) := by
  cases hc : s.regs.configured with
  | false => exact .inl ⟨rfl, by simp [bodyOn, hc]⟩
  | true =>
    right
    cases hk : s.regs.matchOk with
    | false => exact .inl ⟨rfl, rfl, by simp [bodyOn, hc, hk]⟩
    | true =>
      refine .inr ⟨rfl, rfl, ?_⟩
      simp only [bodyOn, hc, hk, require_true, Result.andThen_ok]
      rcases enableMux_outcome s with ⟨t, ht, -, ha, hr, htr, he⟩ | ⟨t, ht, -, -, -, he⟩
      swap
      · exact .inr ⟨t, ht, by simp [he]⟩
      have hmv : t.regs.matchValue = s.regs.matchValue := by rw [hr]; simp
      simp only [he, Result.andThen_ok, hmv]
      rcases ht.regWrite .matchReg s.regs.matchValue with ⟨u, hu, hur, hut, hw⟩ | ⟨u, hu, -, hw⟩
      swap
      · exact .inr ⟨u, hu, by simp [hw]⟩
      have hf := hu.flags
      simp only [hw, Result.andThen_ok, hf]
      rcases hu.regWrite .ctrl (ctrlWord s.regs.flags.start) with ⟨x, hx, hxr, hxt, hx2⟩ | ⟨x, hx, -, hx2⟩
      swap
      · exact .inr ⟨x, hx, by simp [hx2]⟩
      have hf2 := hx.flags
      exact .inl ⟨x, hx, ha, hxr.trans (hur.trans hr), by rw [hxt, hut, htr]; simp, by simp [hx2, hf2]⟩

/-- Everything DETACH's body can do (R170). -/
theorem bodyDetach_outcome (s : State) :
    (s.regs.busy = true ∧ bodyDetach s = .raised .busyError s) ∨
    (s.regs.busy = false ∧ ∃ es, (∀ y ∈ es, y.failed = false) ∧
      es = (if s.regs.flags.started then
          [.write32 (regAddr s.platform .ctrl) (ctrlWord s.regs.flags.stop) true] else []) ++
        (if s.regs.muxSaved then [Event.write16 s.platform.muxOff s.regs.savedMux true] else []) ∧
      s.accepts es.length ∧ bodyDetach s = .ok () ((s.issued es).commit Regs.commitDetach)) ∨
    (s.regs.busy = false ∧ ∃ pre x, (∀ y ∈ pre, y.failed = false) ∧ x.failed = true ∧
      s.accepts pre.length ∧ s.answer pre.length = .failed ∧
      ((s.regs.flags.started = true ∧ pre = [] ∧
          x = .write32 (regAddr s.platform .ctrl) (ctrlWord s.regs.flags.stop) false) ∨
        (s.regs.muxSaved = true ∧ x = .write16 s.platform.muxOff s.regs.savedMux false ∧
          pre = if s.regs.flags.started then
            [.write32 (regAddr s.platform .ctrl) (ctrlWord s.regs.flags.stop) true] else [])) ∧
      bodyDetach s = .raised .ioError (s.issued (pre ++ [x]))) := by
  cases hb : s.regs.busy with
  | true => exact .inl ⟨rfl, by simp [bodyDetach, hb]⟩
  | false =>
    right
    have key : ∀ es : List Event, s.accepts es.length →
        ((if s.regs.muxSaved then muxWrite s.regs.savedMux (s.issued es) else .ok () (s.issued es)).andThen
          fun _ s => Result.ok () (s.commit Regs.commitDetach)) =
          .ok () ((s.issued (es ++ if s.regs.muxSaved then
            [.write16 s.platform.muxOff s.regs.savedMux true] else [])).commit Regs.commitDetach) ∧
          s.accepts (es ++ if s.regs.muxSaved then
            [Event.write16 s.platform.muxOff s.regs.savedMux true] else []).length ∨
        s.regs.muxSaved = true ∧ s.answer es.length = .failed ∧
        ((if s.regs.muxSaved then muxWrite s.regs.savedMux (s.issued es) else .ok () (s.issued es)).andThen
          fun _ s => Result.ok () (s.commit Regs.commitDetach)) =
          .raised .ioError (s.issued (es ++ [.write16 s.platform.muxOff s.regs.savedMux false])) := by
      intro es ha
      cases hm : s.regs.muxSaved with
      | false => exact .inl (by simpa using ha)
      | true =>
        rcases muxWrite_cases s.regs.savedMux (s.issued es) with ⟨⟨d, hd⟩, hw⟩ | ⟨hd, hw⟩
        · exact .inl ⟨by simp [hw], by simpa using State.accepts_succ ha (by simpa using hd)⟩
        · exact .inr ⟨rfl, by simpa using hd, by simp [hw]⟩
    cases hs : s.regs.flags.started with
    | false =>
      rcases key [] (by simp [State.accepts]) with ⟨h1, h2⟩ | ⟨hm, hf, h1⟩
      · refine .inl ⟨rfl, _, ?_, rfl, ?_, ?_⟩
        · intro y hy
          cases hm : s.regs.muxSaved <;> simp [hm] at hy
          subst hy; rfl
        · simpa using h2
        · simpa [bodyDetach, hb, hs] using h1
      · refine .inr ⟨rfl, [], _, by simp, ?_, by simp [State.accepts], hf, .inr ⟨hm, rfl, by simp⟩, ?_⟩
        · rfl
        · simpa [bodyDetach, hb, hs] using h1
    | true =>
      rcases regWrite_cases .ctrl (ctrlWord s.regs.flags.stop) s with ⟨⟨d, hd⟩, hw⟩ | ⟨hd, hw⟩
      · rcases key [.write32 (regAddr s.platform .ctrl) (ctrlWord s.regs.flags.stop) true]
          (by intro k hk; obtain rfl : k = 0 := by simpa using hk
              simp [hd, succeeded]) with ⟨h1, h2⟩ | ⟨hm, hf, h1⟩
        · refine .inl ⟨rfl, _, ?_, rfl, ?_, ?_⟩
          · intro y hy
            cases hm : s.regs.muxSaved <;> simp [hm] at hy
            · subst hy; rfl
            · rcases hy with rfl | rfl <;> rfl
          · simpa using h2
          · simp only [bodyDetach, hb, Bool.not_false, require_true, Result.andThen_ok, hs, if_true, hw]
            exact h1
        · refine .inr ⟨rfl, [.write32 (regAddr s.platform .ctrl) (ctrlWord s.regs.flags.stop) true], _,
            by simp [Event.failed], ?_, State.accepts_succ (by simp [State.accepts]) hd, hf, .inr ⟨hm, rfl, by simp⟩, ?_⟩
          · rfl
          · simp only [bodyDetach, hb, Bool.not_false, require_true, Result.andThen_ok, hs, if_true, hw]
            exact h1
      · exact .inr ⟨rfl, [], _, by simp, by rfl, by simp [State.accepts], hd, .inl ⟨rfl, rfl, rfl⟩, by simp [bodyDetach, hb, hs, hw]⟩

/-- Everything SETPRE's body can do (R165). -/
theorem bodySetpre_cases (d : Int) (s : State) :
    ((d ≤ 0 ∨ 7 < log2Floor d.toNat) ∧ bodySetpre d s = .raised .configError s) ∨
    (0 < d ∧ log2Floor d.toNat ≤ 7 ∧ bodySetpre d s = opWriteFlags
      (prescaleApply s.platform.prescaleMode s.regs.flags (2 ≤ d) (BitVec.ofNat 3 (log2Floor d.toNat))) s) := by
  by_cases h0 : 0 < d
  · by_cases h1 : log2Floor d.toNat ≤ 7
    · exact .inr ⟨h0, h1, by simp [bodySetpre, h0, h1]⟩
    · exact .inl ⟨.inr (by omega), by simp [bodySetpre, h0, h1]⟩
  · exact .inl ⟨.inl (by omega), by simp [bodySetpre, h0]⟩

/-- Everything GETDUTY's body can do (R168): it changes nothing. -/
theorem bodyGetduty_cases (s : State) :
    (s.regs.flags.started = false ∧ bodyGetduty s = .raised .stateError s) ∨
    (s.regs.flags.started = true ∧ (numCounts (zext32 s.regs.reloadValue) = 0 ∨ s.regs.matchOk = false) ∧
      bodyGetduty s = .raised .configError s) ∨
    (s.regs.flags.started = true ∧ numCounts (zext32 s.regs.reloadValue) ≠ 0 ∧ s.regs.matchOk = true ∧
      bodyGetduty s = .ok (some (asU32 (dutyOf (zext32 s.regs.matchValue) (zext32 s.regs.reloadValue)))) s) := by
  cases hs : s.regs.flags.started with
  | false => exact .inl ⟨rfl, by simp [bodyGetduty, hs]⟩
  | true =>
    right
    by_cases hn : numCounts (zext32 s.regs.reloadValue) = 0
    · exact .inl ⟨rfl, .inl hn, by simp [bodyGetduty, hs, hn]⟩
    · cases hm : s.regs.matchOk with
      | false => exact .inl ⟨rfl, .inr rfl, by simp [bodyGetduty, hs, hn, hm]⟩
      | true => exact .inr ⟨rfl, hn, rfl, by simp [bodyGetduty, hs, hn, hm]⟩

end Sys2Proof.Machine
end

