-- ==== Sys2Proof/Laws/Encoding.lean ====
section
/-! SUPPORT. Laws/Encoding.lean: the fields of a word put together, and a word put together from its fields. -/

namespace Sys2Proof

/-- The command word as a number: each field at the place R91 gives it. -/
theorem cmdWord_toNat (op : BitVec 8) (rsv : BitVec 24) (c b a : Word) : (cmdWord op rsv c b a).toNat =
    op.toNat * 2 ^ 120 + rsv.toNat * 2 ^ 96 + c.toNat * 2 ^ 64 + b.toNat * 2 ^ 32 + a.toNat := by
  have h1 : ∀ x y : Nat, y < 2 ^ 32 → x <<< 32 ||| y = x * 2 ^ 32 + y := by
    intro x y h; rw [← Nat.shiftLeft_add_eq_or_of_lt h, Nat.shiftLeft_eq]
  have h2 : ∀ x y : Nat, y < 2 ^ 64 → x <<< 64 ||| y = x * 2 ^ 64 + y := by
    intro x y h; rw [← Nat.shiftLeft_add_eq_or_of_lt h, Nat.shiftLeft_eq]
  have h3 : ∀ x y : Nat, y < 2 ^ 96 → x <<< 96 ||| y = x * 2 ^ 96 + y := by
    intro x y h; rw [← Nat.shiftLeft_add_eq_or_of_lt h, Nat.shiftLeft_eq]
  have h4 : ∀ x y : Nat, y < 2 ^ 120 → x <<< 120 ||| y = x * 2 ^ 120 + y := by
    intro x y h; rw [← Nat.shiftLeft_add_eq_or_of_lt h, Nat.shiftLeft_eq]
  have := op.isLt; have := rsv.isLt; have := c.isLt; have := b.isLt; have := a.isLt
  simp only [cmdWord, BitVec.toNat_cast, BitVec.toNat_append]
  rw [h1 _ _ a.isLt, h2 _ _ (by omega), h3 _ _ (by omega), h4 _ _ (by omega)]
  omega

/-- A field of a command word as a number. -/
theorem extract_toNat (w : CommandWord) (k n : Nat) : (w.extractLsb' k n).toNat = w.toNat / 2 ^ k % 2 ^ n := by
  simp [BitVec.extractLsb'_toNat, Nat.shiftRight_eq_div_pow]

@[simp] theorem cmdOp_cmdWord (op : BitVec 8) (rsv : BitVec 24) (c b a : Word) :
    cmdOp (cmdWord op rsv c b a) = op := by
  apply BitVec.eq_of_toNat_eq
  rw [cmdOp, extract_toNat, cmdWord_toNat]
  have := op.isLt; have := rsv.isLt; have := c.isLt; have := b.isLt; have := a.isLt
  omega

@[simp] theorem cmdRsv_cmdWord (op : BitVec 8) (rsv : BitVec 24) (c b a : Word) :
    cmdRsv (cmdWord op rsv c b a) = rsv := by
  apply BitVec.eq_of_toNat_eq
  rw [cmdRsv, extract_toNat, cmdWord_toNat]
  have := op.isLt; have := rsv.isLt; have := c.isLt; have := b.isLt; have := a.isLt
  omega

@[simp] theorem cmdC_cmdWord (op : BitVec 8) (rsv : BitVec 24) (c b a : Word) :
    cmdC (cmdWord op rsv c b a) = c := by
  apply BitVec.eq_of_toNat_eq
  rw [cmdC, extract_toNat, cmdWord_toNat]
  have := op.isLt; have := rsv.isLt; have := c.isLt; have := b.isLt; have := a.isLt
  omega

@[simp] theorem cmdB_cmdWord (op : BitVec 8) (rsv : BitVec 24) (c b a : Word) :
    cmdB (cmdWord op rsv c b a) = b := by
  apply BitVec.eq_of_toNat_eq
  rw [cmdB, extract_toNat, cmdWord_toNat]
  have := op.isLt; have := rsv.isLt; have := c.isLt; have := b.isLt; have := a.isLt
  omega

@[simp] theorem cmdA_cmdWord (op : BitVec 8) (rsv : BitVec 24) (c b a : Word) :
    cmdA (cmdWord op rsv c b a) = a := by
  apply BitVec.eq_of_toNat_eq
  rw [cmdA, extract_toNat, cmdWord_toNat]
  have := op.isLt; have := rsv.isLt; have := c.isLt; have := b.isLt; have := a.isLt
  omega

/-- A word is put together from its own five fields. -/
theorem cmdWord_fields (w : CommandWord) : cmdWord (cmdOp w) (cmdRsv w) (cmdC w) (cmdB w) (cmdA w) = w := by
  apply BitVec.eq_of_toNat_eq
  rw [cmdWord_toNat, cmdOp, cmdRsv, cmdC, cmdB, cmdA]
  simp only [extract_toNat]
  have := w.isLt
  omega

/-- Two words with the same five fields are the same word. -/
theorem cmdWord_ext {v w : CommandWord} (h1 : cmdOp v = cmdOp w) (h2 : cmdRsv v = cmdRsv w) (h3 : cmdC v = cmdC w)
    (h4 : cmdB v = cmdB w) (h5 : cmdA v = cmdA w) : v = w := by
  rw [← cmdWord_fields v, ← cmdWord_fields w, h1, h2, h3, h4, h5]

end Sys2Proof
end

