-- ==== Sys2Proof/Laws/Memory.lean ====
section
/-! SUPPORT. Laws/Memory.lean: the sample memory keeps its canonical form, a read after a write sees it, and a write
leaves every other byte alone. -/

namespace Sys2Proof.Machine

@[simp] theorem readCells_nil (a : Nat) : readCells [] a = unlistedByte := rfl

theorem readCells_cons (b : Nat) (v : Byte) (rest : List Host.Cell) (a : Nat) :
    readCells ((b, v) :: rest) a = if a = b then v else readCells rest a := rfl

/-- An address below every listed one reads as unlisted. -/
theorem readCells_below (cells : List Host.Cell) (a : Nat) (h : ∀ c ∈ cells, a < c.1) :
    readCells cells a = unlistedByte := by
  induction cells with
  | nil => rfl
  | cons c rest ih =>
    obtain ⟨b, v⟩ := c
    have hb : a < b := h (b, v) (by simp)
    rw [readCells_cons, if_neg (by omega)]
    exact ih fun c hc => h c (by simp [hc])

/-- What a changed list of cells holds: an old cell, or the new one. -/
theorem mem_writeCells (cells : List Host.Cell) (a : Nat) (v : Byte) (c : Host.Cell)
    (h : c ∈ writeCells cells a v) : c ∈ cells ∨ (c = (a, v) ∧ v ≠ unlistedByte) := by
  induction cells with
  | nil =>
    unfold writeCells at h
    split at h <;> simp_all
  | cons d rest ih =>
    obtain ⟨b, w⟩ := d
    unfold writeCells at h
    split_ifs at h with h1 h2 h3 h4 <;> simp only [List.mem_cons] at h ⊢
    · exact .inl h
    · rcases h with h | h
      · exact .inr ⟨h, h2⟩
      · exact .inl h
    · exact .inl (.inr h)
    · rcases h with h | h
      · exact .inr ⟨h, h4⟩
      · exact .inl (.inr h)
    · rcases h with h | h
      · exact .inl (.inl h)
      · rcases ih h with h | h
        · exact .inl (.inr h)
        · exact .inr h

/-- A change keeps the addresses strictly rising. -/
theorem writeCells_rising (cells : List Host.Cell) (a : Nat) (v : Byte)
    (h : cells.Pairwise (fun x y => x.1 < y.1)) : (writeCells cells a v).Pairwise (fun x y => x.1 < y.1) := by
  induction cells with
  | nil =>
    unfold writeCells
    split <;> simp
  | cons d rest ih =>
    obtain ⟨b, w⟩ := d
    obtain ⟨hb, hrest⟩ := List.pairwise_cons.1 h
    unfold writeCells
    split_ifs with h1 h2 h3 h4
    · exact h
    · refine List.pairwise_cons.2 ⟨fun c hc => ?_, h⟩
      rcases List.mem_cons.1 hc with rfl | hc
      · exact h1
      · exact Nat.lt_trans h1 (hb c hc)
    · exact hrest
    · refine List.pairwise_cons.2 ⟨fun c hc => ?_, hrest⟩
      have := hb c hc
      simp only at this ⊢
      omega
    · refine List.pairwise_cons.2 ⟨fun c hc => ?_, ih hrest⟩
      rcases mem_writeCells rest a v c hc with hc | ⟨rfl, -⟩
      · exact hb c hc
      · simp only
        omega

/-- Every memory operation keeps the canonical form: the one operation that changes the memory is the host's write. -/
theorem Memory.write_wf (m : Memory) (a : Nat) (v : Byte) (h : m.wf) (ha : a < 2 ^ 32) : (m.write a v).wf := by
  refine ⟨writeCells_rising m.cells a v h.1, fun c hc => ?_⟩
  rcases mem_writeCells m.cells a v c hc with hc | ⟨rfl, hv⟩
  · exact h.2 c hc
  · exact ⟨hv, ha⟩

/-- A read after a write to the same address gives the byte written. -/
theorem Memory.read_write_same (m : Memory) (a : Nat) (v : Byte) (h : m.wf) : (m.write a v).read a = v := by
  have hp := h.1
  simp only [Memory.write, Memory.read]
  generalize m.cells = cells at hp ⊢
  induction cells with
  | nil =>
    unfold writeCells
    split_ifs with hv
    · simp [hv]
    · simp [readCells_cons]
  | cons d rest ih =>
    obtain ⟨b, w⟩ := d
    obtain ⟨hb, hrest⟩ := List.pairwise_cons.1 hp
    unfold writeCells
    split_ifs with h1 h2 h3 h4
    · rw [h2]
      exact readCells_below _ _ fun c hc => by
        rcases List.mem_cons.1 hc with rfl | hc
        · exact h1
        · exact Nat.lt_trans h1 (hb c hc)
    · simp [readCells_cons]
    · rw [h4, h3]
      exact readCells_below _ _ fun c hc => hb c hc
    · simp [readCells_cons]
    · rw [readCells_cons, if_neg h3]
      exact ih hrest

/-- A write leaves every other address as it was. -/
theorem Memory.read_write_other (m : Memory) (a x : Nat) (v : Byte) (h : m.wf) (hx : x ≠ a) :
    (m.write a v).read x = m.read x := by
  have hp := h.1
  simp only [Memory.write, Memory.read]
  generalize m.cells = cells at hp ⊢
  induction cells with
  | nil =>
    unfold writeCells
    split_ifs
    · rfl
    · simp [readCells_cons, hx]
  | cons d rest ih =>
    obtain ⟨b, w⟩ := d
    obtain ⟨hb, hrest⟩ := List.pairwise_cons.1 hp
    unfold writeCells
    split_ifs with h1 h2 h3 h4
    · rfl
    · simp [readCells_cons, hx]
    · rw [readCells_cons, if_neg (by omega)]
    · rw [readCells_cons, readCells_cons, if_neg hx, if_neg (by omega)]
    · rw [readCells_cons, readCells_cons]
      split
      · rfl
      · exact ih hrest

end Sys2Proof.Machine
end

