-- ==== Sys2Proof/Laws/PerInstr.lean ====
section
/-! SUPPORT. Laws/PerInstr.lean: statements about every command, one lemma per constructor. -/

namespace Sys2Proof.Laws

/-- The encoding of a command has its opcode and its operands in their fields, and 0 in the reserved one (R91, R96). -/
def EncodedFields.Statement (i : Instr) : Prop :=
  cmdOp (encode i) = i.opcode ∧ cmdRsv (encode i) = 0 ∧ cmdC (encode i) = i.operands.1 ∧
    cmdB (encode i) = i.operands.2.1 ∧ cmdA (encode i) = i.operands.2.2

/-- What `cmdWord` says of every encoding. -/
theorem encodedFields (i : Instr) : EncodedFields.Statement i := by
  simp [EncodedFields.Statement, encode]

theorem EncodedFields.cfgfreq (a : Word) : EncodedFields.Statement (.cfgfreq a) := encodedFields _
theorem EncodedFields.setduty (a : Word) : EncodedFields.Statement (.setduty a) := encodedFields _
theorem EncodedFields.on : EncodedFields.Statement .on := encodedFields _
theorem EncodedFields.off : EncodedFields.Statement .off := encodedFields _
theorem EncodedFields.setpol (a : Word) : EncodedFields.Statement (.setpol a) := encodedFields _
theorem EncodedFields.setpre (a : Word) : EncodedFields.Statement (.setpre a) := encodedFields _
theorem EncodedFields.getduty : EncodedFields.Statement .getduty := encodedFields _
theorem EncodedFields.getfreq : EncodedFields.Statement .getfreq := encodedFields _
theorem EncodedFields.pbstart (a b c : Word) : EncodedFields.Statement (.pbstart a b c) := encodedFields _
theorem EncodedFields.pbstop : EncodedFields.Statement .pbstop := encodedFields _
theorem EncodedFields.pbsync : EncodedFields.Statement .pbsync := encodedFields _
theorem EncodedFields.pbpos : EncodedFields.Statement .pbpos := encodedFields _
theorem EncodedFields.detach : EncodedFields.Statement .detach := encodedFields _

end Sys2Proof.Laws
end

