-- ==== Sys2Proof/Laws/Playback.lean ====
section
/-! SUPPORT. Laws/Playback.lean: everything the playback commands and the sequencer's transitions can do. -/

namespace Sys2Proof.Machine

/-- Everything PBSTART's body can do (R201). -/
theorem bodyPbstart_cases (a b c : Word) (s : State) :
    (s.regs.busy = true ∧ bodyPbstart a b c s = .raised .busyError s) ∨
    (s.regs.busy = false ∧ 2 ^ 32 < a.toNat + b.toNat ∧ bodyPbstart a b c s = .raised .configError s) ∨
    (s.regs.busy = false ∧ a.toNat + b.toNat ≤ 2 ^ 32 ∧
      bodyPbstart a b c s = .ok none (s.commit (Regs.startSession a b c))) := by
  cases hb : s.regs.busy with
  | true => exact .inl ⟨rfl, by simp [bodyPbstart, hb]⟩
  | false =>
    rcases require_cases (decide (a.toNat + b.toNat ≤ 2 ^ 32)) .configError s with ⟨h, e⟩ | ⟨h, e⟩
    · exact .inr (.inr ⟨rfl, of_decide_eq_true h, by
        simp only [bodyPbstart, hb, Bool.not_false, require_true, Result.andThen_ok, e]⟩)
    · exact .inr (.inl ⟨rfl, Nat.lt_of_not_le (of_decide_eq_false h), by
        simp only [bodyPbstart, hb, Bool.not_false, require_true, Result.andThen_ok, e, Result.andThen_raised]⟩)

/-- Everything PBSTOP's and PBSYNC's body can do (R203): nothing, turn OFF and clear `active`, or abort. -/
theorem bodyStop_outcome (s : State) :
    (s.regs.active = false ∧ bodyStop s = .ok () s) ∨
    (s.regs.active = true ∧ ((∃ t, GoneOn s t ∧ t.regs = muxRegs s ∧
        t.trace = s.trace ++ muxEvents s ++
          [.write32 (regAddr s.platform .ctrl) (ctrlWord s.regs.flags.stop) true] ∧
        bodyStop s = .ok () (t.commit fun r => (r.setFlags s.regs.flags.stop).clearActive)) ∨
      (∃ t, AbortedAt s t ∧ bodyStop s = .raised .ioError t))) := by
  cases ha : s.regs.active with
  | false => exact .inl ⟨rfl, by simp [bodyStop, ha]⟩
  | true =>
    refine .inr ⟨rfl, ?_⟩
    rcases opWriteFlags_outcome s.regs.flags.stop s with ⟨t, ht, -, hr, htr, he⟩ | ⟨t, ht, he⟩
    · exact .inl ⟨t, ht, hr, htr, by simp [bodyStop, ha, opTurnOff, he]⟩
    · exact .inr ⟨t, ht, by simp [bodyStop, ha, opTurnOff, he]⟩

/-- Everything seq_exit can do (R211): the session ends, with the channel turned OFF or with an IOError on the way; the
response carries the first error of the session and the cursor. -/
theorem seqExit_outcome (s : State) :
    (∃ t, GoneOn s t ∧ t.regs = muxRegs s ∧
      t.trace = s.trace ++ muxEvents s ++ [.write32 (regAddr s.platform .ctrl) (ctrlWord s.regs.flags.stop) true] ∧
      seqExit s = (t.commit fun r => (r.setFlags s.regs.flags.stop).endSession).emit
        (.response ⟨0x10, .ofError s.regs.pbErr, t.regs.cursor⟩)) ∨
    (∃ t, AbortedAt s t ∧ seqExit s = (t.commit Regs.endSession).emit
        (.response ⟨0x10, .error (s.regs.pbErr.getD .ioError), t.regs.cursor⟩)) := by
  rcases opWriteFlags_outcome s.regs.flags.stop s with ⟨t, ht, -, hr, htr, he⟩ | ⟨t, ht, he⟩
  · refine .inl ⟨t, ht, hr, htr, ?_⟩
    cases hp : s.regs.pbErr <;> simp [seqExit, opTurnOff, he, hp, respond]
  · refine .inr ⟨t, ht, ?_⟩
    cases hp : s.regs.pbErr <;> simp [seqExit, opTurnOff, he, hp, respond, Status.ofError]

/-- seq_check goes on, or exits (R210). -/
theorem seqCheck_cases (s : State) :
    ((s.regs.pbErr ≠ none ∨ s.regs.active = false ∨ s.regs.cursor = s.regs.bufLen) ∧ seqCheck s = seqExit s) ∨
    (s.regs.pbErr = none ∧ s.regs.active = true ∧ s.regs.cursor ≠ s.regs.bufLen ∧
      seqCheck s = s.commit Regs.enterLoad) := by
  by_cases h : s.regs.pbErr ≠ none ∨ s.regs.active = false ∨ s.regs.cursor = s.regs.bufLen
  · exact .inl ⟨h, by rw [seqCheck, if_pos h]⟩
  · refine .inr ⟨?_, ?_, ?_, by rw [seqCheck, if_neg h]⟩ <;> simp_all

/-- seq_load reads one sample, and then applies the frequency and the duty cycle; its commit depends on whether they
raised an error (R212). -/
theorem seqLoad_cases (s : State) :
    let u := s.emit (.memRead s.regs.sampleAddr (s.mem.read s.regs.sampleAddr.toNat))
    let d := dutyFromSample (s.mem.read s.regs.sampleAddr.toNat)
    (∃ e t, opConfigureFrequency (asI32 s.platform.baseClock) u = .raised e t ∧
      seqLoad s = t.commit (Regs.failLoad e)) ∨
    (∃ t, opConfigureFrequency (asI32 s.platform.baseClock) u = .ok () t ∧
      ((∃ e t', opSetDutyCycle d t = .raised e t' ∧ seqLoad s = t'.commit (Regs.failLoad e)) ∨
       (∃ t', opSetDutyCycle d t = .ok () t' ∧ seqLoad s = t'.commit Regs.enterSleep))) := by
  intro u d
  have e : seqLoad s = match (opConfigureFrequency (asI32 s.platform.baseClock) u).andThen fun _ s => opSetDutyCycle d s with
      | .ok _ t => t.commit Regs.enterSleep
      | .raised e t => t.commit (Regs.failLoad e) := rfl
  clear_value u d
  cases hf : opConfigureFrequency (asI32 s.platform.baseClock) u with
  | raised e' t => exact .inl ⟨e', t, rfl, by rw [e, hf]; rfl⟩
  | ok v t =>
    refine .inr ⟨t, rfl, ?_⟩
    rw [hf, Result.andThen_ok] at e
    cases hd : opSetDutyCycle d t with
    | raised e' t' => exact .inl ⟨e', t', rfl, by rw [e, hd]⟩
    | ok v' t' => exact .inr ⟨t', rfl, by rw [e, hd]⟩

/-- A tick counts the sleep down, or leaves only its event (R213). -/
theorem tick_cases (s : State) :
    (s.regs.seqState = .sleep ∧ s.regs.sleepCnt ≠ 0 ∧ tick s = (s.emit .tick).commit Regs.countTick) ∨
    (¬(s.regs.seqState = .sleep ∧ s.regs.sleepCnt ≠ 0) ∧ tick s = s.emit .tick) := by
  by_cases h : s.regs.seqState = .sleep ∧ s.regs.sleepCnt ≠ 0
  · exact .inl ⟨h.1, h.2, by simp only [tick, if_pos h]⟩
  · exact .inr ⟨h, by simp only [tick, if_neg h]⟩

/-- Which internal transition the sequencer takes (R243). -/
theorem sequencer_cases (s : State) :
    (s.regs.seqState = .idle ∧ sequencer s = s) ∨ (s.regs.seqState = .check ∧ sequencer s = seqCheck s) ∨
    (s.regs.seqState = .load ∧ sequencer s = seqLoad s) ∨
    (s.regs.seqState = .sleep ∧ s.regs.sleepCnt = 0 ∧ sequencer s = seqAdvance s) ∨
    (s.regs.seqState = .sleep ∧ s.regs.sleepCnt ≠ 0 ∧ sequencer s = s) := by
  cases h : s.regs.seqState with
  | idle => exact .inl ⟨rfl, by simp [sequencer, h]⟩
  | check => exact .inr (.inl ⟨rfl, by simp [sequencer, h]⟩)
  | load => exact .inr (.inr (.inl ⟨rfl, by simp [sequencer, h]⟩))
  | sleep =>
    by_cases hz : s.regs.sleepCnt = 0
    · exact .inr (.inr (.inr (.inl ⟨rfl, hz, by simp only [sequencer, h, if_pos hz]⟩)))
    · exact .inr (.inr (.inr (.inr ⟨rfl, hz, by simp only [sequencer, h, if_neg hz]⟩)))

end Sys2Proof.Machine
end

