-- ==== Sys2Proof/Laws/Step.lean ====
section
/-! SUPPORT. Laws/Step.lean: everything one step can do. -/

namespace Sys2Proof.Machine

/-- What a step that answers a next state has done, by its input (R240, R243): an illegal word or a withdrawn CFG
command answered, a command executed, a tick, the sequencer's turn, a host write, or attach. -/
theorem step_cases {s t : State} (h : step s = .next t) :
    (∃ w k e, s.nextInput = .command w k ∧ decode w = .error e ∧
      t = takeError (cmdOp w) .illegalCommand s.inputTaken) ∨
    (∃ w i, s.nextInput = .command w true ∧ decode w = .ok i ∧ classOf i = .cfg ∧
      t = takeError i.opcode .cancelledError s.inputTaken) ∨
    (∃ w k i, s.nextInput = .command w k ∧ decode w = .ok i ∧ (k = false ∨ classOf i ≠ .cfg) ∧
      exec i s.inputTaken = .next t) ∨
    (s.nextInput = .tick ∧ t = tick s.inputTaken) ∨
    (s.nextInput = .sequencer ∧ t = sequencer s.inputTaken) ∨
    (∃ a b, s.nextInput = .hostStore a b ∧ t = s.inputTaken.setMem (s.mem.write a.toNat b)) ∨
    (s.nextInput = .attach ∧ t = attach s.inputTaken) := by
  unfold step transition at h
  split at h <;> rename_i hi
  · unfold present at h
    split at h
    · injection h with h
      exact .inl ⟨_, _, _, hi, by assumption, h.symm⟩
    · split at h
      · rename_i hk
        injection h with h
        exact .inr (.inl ⟨_, _, by rw [hi, hk.1], by assumption, hk.2, h.symm⟩)
      · rename_i k _ _ _ hk
        refine .inr (.inr (.inl ⟨_, _, _, hi, by assumption, ?_, h⟩))
        cases k
        · exact .inl rfl
        · exact .inr fun hc => hk ⟨rfl, hc⟩
  all_goals injection h with h; subst h
  · exact .inr (.inr (.inr (.inl ⟨hi, rfl⟩)))
  · exact .inr (.inr (.inr (.inr (.inl ⟨hi, rfl⟩))))
  · exact .inr (.inr (.inr (.inr (.inr (.inl ⟨_, _, hi, rfl⟩)))))
  · exact .inr (.inr (.inr (.inr (.inr (.inr ⟨hi, rfl⟩)))))

end Sys2Proof.Machine
end

