-- ==== Sys2Proof/Tests/Slice0.lean ====
section
/-! SUPPORT. Slice0.lean: the tests. Every expected value is taken from spec/ (a word of R105 or of V30-1, a vector of
spec/95_test_vectors.md), named beside the test. The second half has a witness for every statement that has hypotheses:
a concrete state and operands that meet all of them. -/

namespace Sys2Proof.Tests

open Sys2Proof.Machine Sys2Proof.Config

/-! ### The bench: the settings of spec/95_test_vectors.md -/

/-- The parameters of spec/95's vectors, with an address map of spec/93 G2's kind. -/
def platform : Platform where
  nch := 1
  chIndex := 0
  regBase := 0x49040000
  pageSize := 4096
  offCtrl := 0x24
  offCounter := 0x28
  offReload := 0x2C
  offMatch := 0x38
  muxOff := 0
  muxFn := ⟨[], 0x0002⟩
  inputFreq := 32768
  rateFast := 13000000
  defaultFreq := 1024
  baseClock := 1024
  prescaleMode := .merge
  tick := 1

theorem platform_valid : platform.Valid := by constructor <;> decide

/-- A state with these registers, these inputs, and the samples 0, 128, 255 at 0x1000. The environment accepts every
access whose number is not in `bad`, and a mux read gives 0x0104: ENV_SIMPLE (R83), since the block reads the mux only
before its first successful mux write. -/
def bench (r : Regs) (inputs : List Input := []) (bad : List Nat := []) : State where
  regs := r
  platform := platform
  mem := ⟨[(0x1001, 0x80), (0x1002, 0xFF)]⟩
  inputs := inputs
  inputNo := 0
  answers := (List.range 24).map fun k => if k ∈ bad then .failed else .done 0x0104
  answerNo := 0
  trace := []

/-- Registers with the mux saved. -/
def saved : Regs := { Regs.reset with muxSaved := true, savedMux := 0x0104 }

/-- Registers after CFGFREQ 1024 from reset. -/
def configured : Regs := { saved with reloadValue := 0xFFFFFFE0, frequency := 1024, configured := true }

/-- Registers after CFGFREQ 1024 and SETDUTY 50 from reset. -/
def running : Regs := { configured with matchValue := 0xFFFFFFEF, flags := ⟨true, false, true, false, 0⟩ }

/-- Registers inside a session over the three samples. -/
def session (q : SeqState) (cursor sleepCnt : Word) (r : Regs := running) : Regs :=
  { r with
    active := true
    seqState := q
    cursor := cursor
    bufBase := 0x1000
    bufLen := 3
    interval := 1
    sleepCnt := sleepCnt }

/-- The state an outcome carries. -/
def after : Host.Outcome State Fault Refusal → Option State
  | .next s => some s
  | .fault _ => none
  | .refused _ => none

/-- The trace of an outcome. -/
def traceOf (o : Host.Outcome State Fault Refusal) : Option (List Event) := (after o).map State.trace

/-- The block's registers in an outcome. -/
def regsOf (o : Host.Outcome State Fault Refusal) : Option Regs := (after o).map State.regs

/-- `[mux]` of R172 in these settings. -/
def mux : List Event := [.read16 0 (some 0x0104), .write16 0 0x0002 true]

/-- A write that succeeds, by its register. -/
def wr (r : TimerReg) (v : Word) : Event := .write32 (regAddr platform r) v true

/-- A write that fails. -/
def wrFails (r : TimerReg) (v : Word) : Event := .write32 (regAddr platform r) v false

/-- A response. -/
def resp (op : BitVec 8) (st : Status) (v : Word) : Event := .response ⟨op, st, v⟩

/-! ### Well-formedness -/

theorem test_setpol_operand_above_one_is_ill_formed :
    (Instr.setpol 2).WellFormed = false ∧ (Instr.setpol 0x80000001).WellFormed = false ∧
      (Instr.setpol 0).WellFormed = true ∧ (Instr.setpol 1).WellFormed = true := by decide

/-! ### Decoding: words written out from R91 and R96, and V30-1 -/

theorem test_decode_cfgfreq : decode 0x010000000000000000000000FFFFFFFB = .ok (.cfgfreq (asU32 (-5))) := by decide
theorem test_decode_setduty : decode 0x02000000000000000000000000000032 = .ok (.setduty 50) := by decide
theorem test_decode_on : decode 0x03000000000000000000000000000000 = .ok .on := by decide
theorem test_decode_off : decode 0x04000000000000000000000000000000 = .ok .off := by decide
theorem test_decode_setpol : decode 0x05000000000000000000000000000001 = .ok (.setpol 1) := by decide
theorem test_decode_setpre : decode 0x06000000000000000000000000000008 = .ok (.setpre 8) := by decide
theorem test_decode_getduty : decode 0x07000000000000000000000000000000 = .ok .getduty := by decide
theorem test_decode_getfreq : decode 0x08000000000000000000000000000000 = .ok .getfreq := by decide
theorem test_decode_pbstart : decode 0x10000000000000010000000300001000 = .ok (.pbstart 0x1000 3 1) := by decide
theorem test_decode_pbstop : decode 0x11000000000000000000000000000000 = .ok .pbstop := by decide
theorem test_decode_pbsync : decode 0x12000000000000000000000000000000 = .ok .pbsync := by decide
theorem test_decode_pbpos : decode 0x13000000000000000000000000000000 = .ok .pbpos := by decide
theorem test_decode_detach : decode 0x20000000000000000000000000000000 = .ok .detach := by decide

theorem test_encode : encode (.pbstart 0x1000 3 1) = 0x10000000000000010000000300001000 ∧
    encode (.cfgfreq 1024) = 0x01000000000000000000000000000400 := by decide

theorem test_decode_illegal :
    decode 0x01000000000000000000000100000400 = .error .unusedOperand ∧
    decode 0x01000001000000000000000000000400 = .error .reservedBits ∧
    decode 0x00000000000000000000000000000000 = .error .unknownOp ∧
    decode 0x09000000000000000000000000000000 = .error .unknownOp ∧
    decode 0xFF000000000000000000000000000000 = .error .unknownOp ∧
    decode 0x03000000000000000000000000000001 = .error .unusedOperand ∧
    decode 0x05000000000000000000000000000002 = .error .setpolOperand := by decide

theorem test_decodeTableWord : decodeTableWord 128 0x10000000000000010000000300001000 = some (.pbstart 0x1000 3 1) ∧
    decodeTableWord 128 0x09000000000000000000000000000000 = none := by decide

theorem test_withFetchWord :
    step (State.reset.withFetchWord 128 0x03000000000000000000000000000000) = exec .on State.reset.inputTaken := rfl

/-! ### The timer register model: V40-1 to V40-7 -/

theorem test_clampFreq : [1024, 1025, 1000, 3, 2, 1, 0, -5, -2147483648, 16384, 16385, 100000, 2147483647].map
    (clampFreq platform) = [1024, 1024, 1000, 2, 2, 0, 1024, 1024, 1024, 16384, 16384, 16384, 16384] := by decide

theorem test_computeReload : [2, 512, 1000, 2048, 4096, 10922, 10924, 16384].map (computeReload · 32768) =
    [0xFFFFC000, 0xFFFFFFC0, 0xFFFFFFE0, 0xFFFFFFF0, 0xFFFFFFF8, 0xFFFFFFFD, 0xFFFFFFFE, 0xFFFFFFFE] := by decide

theorem test_computeMatch : [0, 1, 3, 4, 10, 25, 33, 50, 75, 78, 99, 100].map (computeMatch · 0xFFFFFFE0 30) =
    [none, some 0xFFFFFFE1, some 0xFFFFFFE1, some 0xFFFFFFE1, some 0xFFFFFFE3, some 0xFFFFFFE7, some 0xFFFFFFE9,
     some 0xFFFFFFEF, some 0xFFFFFFF6, some 0xFFFFFFF7, some 0xFFFFFFFD, some 0xFFFFFFFE] := by decide

theorem test_dutyOf : [0xFFFFFFE1, 0xFFFFFFE3, 0xFFFFFFE7, 0xFFFFFFF6, 0xFFFFFFFE].map (dutyOf · 0xFFFFFFE0) =
    [3, 10, 23, 73, 100] ∧ dutyOf 0xFFFFC0A3 0xFFFFC000 = 0 ∧ dutyOf 0xFFFFFFEF 0xFFFFFFC0 = 75 := by decide

theorem test_dutyFromSample : ([0, 1, 2, 3, 5, 6, 64, 127, 128, 129, 200, 254, 255] : List Byte).map dutyFromSample =
    [0, 0, 0, 1, 1, 2, 25, 49, 50, 50, 78, 99, 99] := by decide

theorem test_log2Floor : [1, 2, 3, 4, 7, 8, 128, 255, 256].map log2Floor = [0, 1, 1, 2, 2, 3, 7, 7, 8] := by decide

theorem test_ctrlWord : ctrlWord ⟨false, true, true, true, 3⟩ = 0x000000AE ∧
    ctrlWord ⟨true, false, true, true, 7⟩ = 0x0000003F ∧
    ctrlWord (prescaleApply .refClear running.flags true 2) = 0x00000008 := by decide

/-! ### One command each -/

/-- V41-1, CFGFREQ -5 from reset. -/
theorem test_cfgfreq_falls_back : traceOf (exec (.cfgfreq (asU32 (-5))) (bench Regs.reset)) =
    some (mux ++ [wr .reload 0xFFFFFFE0, wr .counter 0xFFFFFFE0, resp 0x01 .ok 0]) := by decide

/-- V41-6 (b): the early commit stays when the reload write fails. -/
theorem test_cfgfreq_early_commit : (traceOf (exec (.cfgfreq 1024) (bench Regs.reset [] [2])),
      regsOf (exec (.cfgfreq 1024) (bench Regs.reset [] [2]))) =
    (some (mux ++ [wrFails .reload 0xFFFFFFE0, resp 0x01 (.error .ioError) 0]), some saved) := by decide

/-- P1, SETDUTY 50. -/
theorem test_setduty_50 : (traceOf (exec (.setduty 50) (bench configured)), regsOf (exec (.setduty 50) (bench configured))) =
    (some [wr .ctrl 2, wr .matchReg 0xFFFFFFEF, wr .ctrl 3, resp 0x02 .ok 0], some running) := by decide

/-- V60-1: the percent range is tested before UNCONFIGURED. -/
theorem test_setduty_range_first : traceOf (exec (.setduty 101) (bench Regs.reset)) =
    some [resp 0x02 (.error .configError) 0] := by decide

/-- V41-5, ON with the old match still in range. -/
theorem test_on : traceOf (exec .on (bench { running with
      flags := ⟨false, false, true, false, 0⟩, reloadValue := 0xFFFFFFC0, frequency := 512 })) =
    some [wr .matchReg 0xFFFFFFEF, wr .ctrl 3, resp 0x03 .ok 0] := by decide

/-- V41-1, ON with the match value still 0. -/
theorem test_on_out_of_range : traceOf (exec .on (bench configured)) = some [resp 0x03 (.error .configError) 0] := by decide

/-- V41-4, OFF while UNCONFIGURED. -/
theorem test_off : traceOf (exec .off (bench Regs.reset)) = some (mux ++ [wr .ctrl 2, resp 0x04 .ok 0]) := by decide

/-- V41-4, SETPOL 1. -/
theorem test_setpol : traceOf (exec (.setpol 1) (bench saved)) = some [wr .ctrl 0x82, resp 0x05 .ok 0] := by decide

/-- V41-6 (a): the mux write fails. -/
theorem test_setpol_mux_fails : (traceOf (exec (.setpol 1) (bench Regs.reset [] [1])),
      regsOf (exec (.setpol 1) (bench Regs.reset [] [1]))) =
    (some [.read16 0 (some 0x0104), .write16 0 0x0002 false, resp 0x05 (.error .ioError) 0], some Regs.reset) := by decide

/-- V41-3, SETPRE 255 on a running channel. -/
theorem test_setpre : traceOf (exec (.setpre 255) (bench running)) = some [wr .ctrl 0x3F, resp 0x06 .ok 0] := by decide

/-- V41-3, SETPRE 256. -/
theorem test_setpre_256 : traceOf (exec (.setpre 256) (bench running)) =
    some [resp 0x06 (.error .configError) 0] := by decide

/-- V41-5: 47 of 62 counts. -/
theorem test_getduty : traceOf (exec .getduty (bench { running with reloadValue := 0xFFFFFFC0, frequency := 512 })) =
    some [resp 0x07 .ok 75] := by decide

/-- V41-5: the match at or below the reload value. -/
theorem test_getduty_out_of_range :
    traceOf (exec .getduty (bench { running with reloadValue := 0xFFFFFFF8, frequency := 4096 })) =
      some [resp 0x07 (.error .configError) 0] := by decide

/-- V41-1. -/
theorem test_getfreq : traceOf (exec .getfreq (bench configured)) = some [resp 0x08 .ok 1024] := by decide

/-- V30-1: `a + b = 2^32` is accepted, with no event. -/
theorem test_pbstart : traceOf (exec (.pbstart 0xFFFFFFFF 1 0) (bench Regs.reset)) = some [] := by decide

/-- V60-1: busy is tested before the addresses. -/
theorem test_pbstart_busy_first : traceOf (exec (.pbstart 0xFFFFFFFF 2 0) (bench (session .sleep 1 1))) =
    some [resp 0x10 (.error .busyError) 0] := by decide

/-- V42-6, the first line. -/
theorem test_pbstop_fails : (traceOf (exec .pbstop (bench (session .check 0 0) [] [0])),
      regsOf (exec .pbstop (bench (session .check 0 0) [] [0]))) =
    (some [wrFails .ctrl 2, resp 0x11 (.error .ioError) 0], some (session .check 0 0)) := by decide

/-- V42-6 under V42-8, the second line. -/
theorem test_pbsync : (traceOf (exec .pbsync (bench (session .check 0 0))),
      (regsOf (exec .pbsync (bench (session .check 0 0)))).map Regs.active) =
    (some [wr .ctrl 2, resp 0x12 .ok 0], some false) := by decide

/-- R205. -/
theorem test_pbpos : traceOf (exec .pbpos (bench (session .load 2 0))) = some [resp 0x13 .ok 2] := by decide

/-- V41-6 (a): the mux is restored, and a channel that is OFF gets no control write. -/
theorem test_detach : traceOf (exec .detach (bench saved)) = some [.write16 0 0x0104 true, resp 0x20 .ok 0] := by decide

/-- V41-8: a command in DETACHED. -/
theorem test_detached : traceOf (exec .pbpos (bench { saved with detached := true })) =
    some [resp 0x13 (.error .stateError) 0] := by decide

/-! ### The guard and the sequencer -/

/-- V60-1: an illegal word in DETACHED. -/
theorem test_illegal_word_first :
    traceOf (step (bench { saved with detached := true } [.command 0x05000000000000000000000000000002 false])) =
      some [resp 0x05 (.error .illegalCommand) 0] := by decide

/-- V60-1: a withdrawn SETDUTY 101 in DETACHED. -/
theorem test_withdrawn_before_detached :
    traceOf (step (bench { saved with detached := true } [.command 0x02000000000000000000000000000065 true])) =
      some [resp 0x02 (.error .cancelledError) 0] := by decide

/-- V42-1, the seq_check line. -/
theorem test_seq_exit : traceOf (step (bench { Regs.reset with active := true, seqState := .check } [.sequencer])) =
    some (mux ++ [wr .ctrl 2, resp 0x10 .ok 0]) := by decide

/-- V42-9, the second seq_load line, at the sample of address 0x1001. -/
theorem test_seq_load : traceOf (step (bench (session .load 1 0 { running with flags := ⟨false, true, true, false, 0⟩ })
      [.sequencer])) =
    some [.memRead 0x1001 0x80, wr .reload 0xFFFFFFE0, wr .counter 0xFFFFFFE0, wr .ctrl 0x82,
      wr .matchReg 0xFFFFFFEF, wr .ctrl 0x83] := by decide

/-- V42-5: the last write of a sample fails. -/
theorem test_seq_load_fails :
    (regsOf (step (bench (session .load 1 0 saved) [.sequencer] [4]))).map
      (fun r => (r.pbErr, r.seqState, r.configured, r.matchValue, r.flags.started)) =
    some (some .ioError, .check, true, 0, false) := by decide

/-- V42-5's kind: the mux read of the first sample fails, and nothing is committed. -/
theorem test_seq_load_mux_fails :
    (traceOf (step (bench (session .load 1 0 Regs.reset) [.sequencer] [0])),
      (regsOf (step (bench (session .load 1 0 Regs.reset) [.sequencer] [0]))).map
        (fun r => (r.pbErr, r.seqState, r.muxSaved, r.configured))) =
    (some [.memRead 0x1001 0x80, .read16 0 none], some (some .ioError, .check, false, false)) := by decide

/-- R211, an exit of a stopped session whose mux write fails. -/
theorem test_seq_exit_mux_fails :
    (traceOf (step (bench { Regs.reset with seqState := .check } [.sequencer] [1])),
      (regsOf (step (bench { Regs.reset with seqState := .check } [.sequencer] [1]))).map
        (fun r => (r.seqState, r.muxSaved))) =
    (some [.read16 0 (some 0x0104), .write16 0 0x0002 false, resp 0x10 (.error .ioError) 0], some (.idle, false)) := by
  decide

/-- R213, R214. -/
theorem test_tick_and_advance :
    ((regsOf (step (bench (session .sleep 1 1) [.tick]))).map Regs.sleepCnt,
      (regsOf (step (bench (session .sleep 1 0) [.sequencer]))).map (fun r => (r.cursor, r.seqState))) =
    (some 0, some (2, .check)) := by decide

/-- R70, and the canonical form: writing the value of an unlisted byte removes the cell. -/
theorem test_host_store : (after (step (bench Regs.reset [.hostStore 0x1001 0]))).map State.mem =
    some ⟨[(0x1002, 0xFF)]⟩ := by decide

/-- R300. -/
theorem test_attach : regsOf (step (bench { running with detached := true } [.attach])) = some Regs.reset := by decide

/-! ### Witnesses: states and operands that meet every hypothesis of a statement, all together -/

/-- Every word of the command port that a test presents. -/
def wordOf (i : Instr) : Input := .command (encode i) false

/-- The bench with no access marked as failing accepts 24 accesses. -/
theorem bench_accepts (r : Regs) (inputs : List Input) {n : Nat} (hn : n ≤ 24) : (bench r inputs).accepts n := by
  intro k hk
  have : k < 24 := Nat.lt_of_lt_of_le hk hn
  interval_cases k <;> rfl

theorem reset_items (p : Platform) : Regs.reset.InvariantsR41 p := by
  constructor <;> simp [Regs.reset]

theorem bench_reset_inv (inputs : List Input) : (bench Regs.reset inputs).Inv :=
  ⟨platform_valid, reset_items _, by simp [bench, Regs.reset], show (bench Regs.reset).mem.wf by decide⟩

theorem running_items : running.InvariantsR41 platform := by constructor <;> decide

theorem bench_running_inv (inputs : List Input) : (bench running inputs).Inv :=
  ⟨platform_valid, running_items, (fun h => by cases h), show (bench Regs.reset).mem.wf by decide⟩

theorem session_items (q : SeqState) (c n : Word) (h : (q = .check ∧ c ≤ 3 ∧ n = 0) ∨ (q = .load ∧ c < 3 ∧ n = 0) ∨
    (q = .sleep ∧ c < 3 ∧ n ≤ 1)) : (session q c n).InvariantsR41 platform := by
  have hc : c ≤ 3 := by rcases h with ⟨-, h, -⟩ | ⟨-, h, -⟩ | ⟨-, h, -⟩ <;> bv_omega
  have hn : n ≤ 1 := by rcases h with ⟨-, -, rfl⟩ | ⟨-, -, rfl⟩ | ⟨-, -, h⟩ <;> first | decide | exact h
  have hq : q ≠ .idle := by rcases h with ⟨rfl, -⟩ | ⟨rfl, -⟩ | ⟨rfl, -⟩ <;> decide
  exact {
    item1 := fun _ => ⟨rfl, rfl⟩
    item2 := running_items.item2
    item3 := fun h => by cases h
    item4 := fun _ => ⟨hq, rfl⟩
    item5 := fun _ => ⟨rfl, hc, by change (4096 : Nat) + 3 ≤ 2 ^ 32; decide⟩
    item6 := fun hl => by
      rcases h with ⟨rfl, -⟩ | ⟨-, h, -⟩ | ⟨-, h, -⟩
      · cases hl
      · exact h
      · exact h
    item7 := fun hi => absurd hi hq
    item8 := fun _ => rfl
    item9 := running_items.item9
    item10 := hn
    item11 := ⟨fun hi => absurd hi hq, fun hp => absurd rfl hp, fun hz => by
      rcases h with ⟨-, -, rfl⟩ | ⟨-, -, rfl⟩ | ⟨h, -⟩
      · exact absurd rfl hz
      · exact absurd rfl hz
      · exact h⟩ }

theorem bench_session_inv (q : SeqState) (c n : Word) (inputs : List Input) (h : (q = .check ∧ c ≤ 3 ∧ n = 0) ∨
    (q = .load ∧ c < 3 ∧ n = 0) ∨ (q = .sleep ∧ c < 3 ∧ n ≤ 1)) : (bench (session q c n) inputs).Inv :=
  ⟨platform_valid, session_items q c n h, fun hq => by
    rcases h with ⟨rfl, -⟩ | ⟨rfl, -⟩ | ⟨-, h, -⟩
    · cases hq
    · cases hq
    · exact h, show (bench Regs.reset).mem.wf by decide⟩

theorem test_witness_DecodeOfEncode : (Instr.setpol 1).WellFormed = true ∧
    (Instr.pbstart 0xFFFFFFFF 0xFFFFFFFF 0xFFFFFFFF).WellFormed = true := by decide

theorem test_witness_EncodeOfDecode : decode 0x10000000FFFFFFFFFFFFFFFFFFFFFFFF =
    .ok (.pbstart 0xFFFFFFFF 0xFFFFFFFF 0xFFFFFFFF) := by decide

theorem test_witness_IllegalWordIsOnlyAnswered :
    (bench running [.command 0x05000000000000000000000000000002 true]).nextInput =
      .command 0x05000000000000000000000000000002 true ∧
    decode 0x05000000000000000000000000000002 = .error .setpolOperand := by decide

theorem test_witness_StepRunsTheDecodedCommand :
    (bench running [wordOf .on]).nextInput = .command (encode .on) false ∧ decode (encode .on) = .ok .on ∧
    (bench running [.command (encode .pbpos) true]).nextInput = .command (encode .pbpos) true ∧
    decode (encode .pbpos) = .ok .pbpos ∧ classOf .pbpos ≠ .cfg ∧ classOf .detach ≠ .cfg := by decide

theorem test_witness_WithdrawnCommandIsOnlyAnswered :
    (bench running [.command (encode .off) true]).nextInput = .command (encode .off) true ∧
    decode (encode .off) = .ok .off ∧ classOf .off = .cfg ∧
    Instr.cfgfreq 0 ∈ ([.cfgfreq 0, .setduty 0, .on, .off, .setpol 0, .setpre 0, .getduty, .getfreq] : List Instr) ∧
    Instr.pbpos ∈ ([.pbstart 0 0 0, .pbstop, .pbsync, .pbpos] : List Instr) := by decide

theorem test_witness_ClampedFrequencyIsEvenAndCapped :
    platform.Valid ∧ platform.inputFreq = 32768 ∧ platform.defaultFreq = 1024 ∧
    clampFreq (bench Regs.reset).platform 1 = 0 :=
  ⟨platform_valid, rfl, rfl, by decide⟩

theorem test_witness_ReloadAndCountsRange : ((4 : Int) ≤ 32768 ∧ (32768 : Int) ≤ 2 ^ 31 - 1) ∧
    ∀ f ∈ ([2, 10922, 10923, 16384] : List Int), 2 ≤ f ∧ f ≤ 32768 / 2 := by decide

theorem test_witness_MatchLiesInsideThePeriod : (∀ p ∈ ([1, 100] : List Int), 1 ≤ p ∧ p ≤ 100 ∧
    ∀ r ∈ ([0xFFFFC000, 0xFFFFFFFD] : List Int), 0 ≤ r ∧ 1 ≤ numCounts r) ∧
    ((1 : Int) ≤ 30 ∧ (33 : Int) * 3 < 100 ∧ ¬(1 : Int) * 100 < 100 ∧ (1 : Int) ≤ 1) := by decide

theorem test_witness_DutyReadBackRange : ∀ m ∈ ([0xFFFFFFE1, 0xFFFFFFFE] : List Int),
    (0xFFFFFFE0 : Int) < m ∧ m ≤ 0xFFFFFFFE ∧ numCounts 0xFFFFFF99 = 101 := by decide

theorem test_witness_LogIsTheHighestBit : (∀ d ∈ ([1, 2, 0xFFFFFFFF] : List Nat), 1 ≤ d ∧ d < 2 ^ 32) ∧
    (0 : Int) < 1 ∧ 7 < log2Floor (256 : Int).toNat := by decide

theorem test_witness_SourceExampleValues : (0 : Int) < 16384 ∧ (16384 : Int) ≤ 32768 / 2 ∧ (16384 : Int) % 2 = 0 := by
  decide

theorem test_witness_CfgfreqCompletes : (bench Regs.reset).regs.detached = false ∧
    (∀ a ∈ ([0, 2, 0x7FFFFFFF, 0x80000000] : List Word), clampFreq platform a.toInt ≠ 0) ∧
    (bench Regs.reset).accepts (muxAnswers (bench Regs.reset) + 2) := by
  refine ⟨rfl, ?_, bench_accepts _ _ (by decide)⟩
  intro a ha
  simp only [List.mem_cons, List.not_mem_nil, or_false] at ha
  rcases ha with rfl | rfl | rfl | rfl <;> simp [clampFreq, platform, asI32]

theorem test_witness_SetdutyNonzeroCompletes : (bench configured).regs.detached = false ∧
    (bench configured).regs.configured = true ∧ (bench configured).regs.reloadValue ≠ 0xFFFFFFFE ∧
    ((1 : Int) ≤ (1 : Word).toInt ∧ (100 : Word).toInt ≤ 100) ∧
    computeMatch (1 : Word).toInt (0xFFFFFFE0 : Word).toNat (numCounts (0xFFFFFFE0 : Word).toNat) = some 0xFFFFFFE1 ∧
    computeMatch (100 : Word).toInt (0xFFFFFFE0 : Word).toNat (numCounts (0xFFFFFFE0 : Word).toNat) = some 0xFFFFFFFE ∧
    (bench configured).accepts (muxAnswers (bench configured) + 3) :=
  ⟨rfl, rfl, by decide, by decide, by decide, by decide, bench_accepts _ _ (by decide)⟩

/-- For the statements on SETDUTY 0, OFF and SETPOL. -/
theorem test_witness_one_control_write :
    ((bench Regs.reset).regs.detached = false ∧ (bench Regs.reset).accepts (muxAnswers (bench Regs.reset) + 1)) ∧
    (bench running).regs.detached = false ∧ (bench running).accepts (muxAnswers (bench running) + 1) :=
  ⟨⟨rfl, bench_accepts _ _ (by decide)⟩, rfl, bench_accepts _ _ (by decide)⟩

theorem test_witness_OnCompletes : (bench { configured with matchValue := 0xFFFFFFE1 }).regs.detached = false ∧
    configured.configured = true ∧ configured.reloadValue.toNat < (0xFFFFFFE1 : Word).toNat ∧
    (0xFFFFFFFE : Word).toNat ≤ 0xFFFFFFFE ∧
    (bench { configured with matchValue := 0xFFFFFFE1 }).accepts (muxAnswers (bench configured) + 2) :=
  ⟨rfl, rfl, by simp [configured], by simp, bench_accepts _ _ (by decide)⟩

theorem test_witness_SetpreCompletes : (bench running).regs.detached = false ∧
    ((1 : Int) ≤ (1 : Word).toInt ∧ (255 : Word).toInt ≤ 255) ∧
    (bench running).accepts (muxAnswers (bench running) + 1) ∧ (bench running).platform.prescaleMode = .merge ∧
    { bench running with platform := { platform with prescaleMode := .refClear } }.platform.prescaleMode = .refClear :=
  ⟨rfl, by decide, bench_accepts _ _ (by decide), rfl, rfl⟩

theorem test_witness_GetdutyCompletes : (bench running).regs.detached = false ∧
    (bench running).regs.flags.started = true ∧ running.reloadValue.toNat < (0xFFFFFFE1 : Word).toNat ∧
    (0xFFFFFFFE : Word).toNat ≤ 0xFFFFFFFE :=
  ⟨rfl, rfl, by simp [running, configured], by simp⟩

theorem test_witness_GetfreqAndPbposComplete : (bench running).regs.detached = false := by decide

theorem test_witness_DetachCompletes : (∀ r ∈ ([Regs.reset, saved, running] : List Regs),
    r.detached = false ∧ r.active = false ∧ r.seqState = .idle) ∧ (bench running).accepts (1 + 1) :=
  ⟨by decide, bench_accepts _ _ (by decide)⟩

theorem test_witness_PbstartCompletes : (bench running).regs.detached = false ∧ (bench running).regs.active = false ∧
    (bench running).regs.seqState = .idle ∧ (0xFFFFFFFF : Word).toNat + (1 : Word).toNat ≤ 2 ^ 32 := by decide

theorem test_witness_PbstopAndPbsyncComplete : (bench running).regs.detached = false ∧
    (bench running).regs.active = false ∧ (bench (session .load 1 0)).regs.detached = false ∧
    (bench (session .load 1 0)).regs.active = true ∧
    (bench (session .load 1 0)).accepts (muxAnswers (bench (session .load 1 0)) + 1) :=
  ⟨rfl, rfl, rfl, rfl, bench_accepts _ _ (by decide)⟩

theorem test_witness_DetachedIsTerminal :
    (bench { Regs.reset with detached := true } [.sequencer]).Inv ∧
    (bench { Regs.reset with detached := true } [.sequencer]).regs.detached = true ∧
    (bench { Regs.reset with detached := true } [.sequencer]).nextInput = .sequencer ∧
    ((bench { Regs.reset with detached := true } [.command (encode .getfreq) true]).nextInput =
      .command (encode .getfreq) true ∧ decode (encode .getfreq) = .ok .getfreq ∧ classOf .getfreq = .cfg) ∧
    ∃ t, step (bench { Regs.reset with detached := true } [.sequencer]) = .next t :=
  ⟨⟨platform_valid, by constructor <;> decide, by decide, by decide⟩, rfl, rfl, by decide, _, rfl⟩

theorem test_witness_PreconditionsComeFirst : (bench configured).regs.detached = false ∧
    preconditionError (bench configured) (.setduty 101) = some .configError ∧
    preconditionError (bench configured) (.setpre 256) = some .configError ∧
    preconditionError (bench configured) (.cfgfreq 1) = some .configError ∧
    preconditionError (bench configured) .on = some .configError ∧
    preconditionError (bench configured) .getduty = some .stateError ∧
    preconditionError (bench (session .load 1 0)) .detach = some .busyError ∧
    preconditionError (bench configured) (.pbstart 0xFFFFFFFF 2 0) = some .configError := by decide

theorem test_witness_FailedMuxSaveCommitsNothing : (bench Regs.reset).regs.detached = false ∧
    preconditionError (bench Regs.reset) .off = none ∧ runsEnableMux (bench Regs.reset) .off = true ∧
    (bench Regs.reset).regs.muxSaved = false ∧ (bench Regs.reset [] [0]).answer 0 = .failed ∧
    (bench Regs.reset [] [1]).answer 0 = .done 0x0104 ∧ (bench Regs.reset [] [1]).answer 1 = .failed := by decide

theorem test_witness_ErrorsAreAtomic :
    (∃ t, exec .on (bench configured) = .next t ∧
      t.trace = (bench configured).trace ++ [.response ⟨0x03, .error .configError, 0⟩]) ∧
    ∃ t, exec .off (bench Regs.reset [] [2]) = .next t ∧
      t.trace = (bench Regs.reset).trace ++ (mux ++ [wrFails .ctrl 2, .response ⟨0x04, .error .ioError, 0⟩]) :=
  ⟨⟨_, rfl, by decide⟩, _, rfl, by decide⟩

theorem test_witness_SetdutyFailingAtTheMatchWrite : (bench running [] [1]).regs.detached = false ∧
    (1 : Int) ≤ (25 : Word).toInt ∧ (25 : Word).toInt ≤ 100 ∧ (bench running [] [1]).regs.configured = true ∧
    (bench running [] [1]).regs.muxSaved = true ∧ (bench running [] [1]).regs.reloadValue ≠ 0xFFFFFFFE ∧
    computeMatch (25 : Word).toInt (bench running [] [1]).regs.reloadValue.toNat
      (numCounts (bench running [] [1]).regs.reloadValue.toNat) = some 0xFFFFFFE7 ∧
    (bench running [] [1]).answer 0 = .done 0x0104 ∧ (bench running [] [1]).answer 1 = .failed := by decide

theorem test_witness_EveryCommandIsAnsweredOnce : preconditionError (bench running) (.pbstart 0 0 0) = none ∧
    (bench running).regs.detached = false ∧ preconditionError (bench (session .load 1 0)) (.pbstart 0 0 0) ≠ none := by
  decide

theorem test_witness_OnlyIoErrorAfterThePreconditions : (bench running [] [0]).regs.detached = false ∧
    preconditionError (bench running [] [0]) .off = none ∧
    ∃ t, exec .off (bench running [] [0]) = .next t ∧ t.trace = (bench running).trace ++
      [wrFails .ctrl 2, .response ⟨Instr.off.opcode, .error .ioError, 0⟩] :=
  ⟨rfl, rfl, _, rfl, by decide⟩

theorem test_witness_ControllerStateMoves : (bench running).Inv ∧
    (∃ t, exec .off (bench running) = .next t ∧
      t.trace = (bench running).trace ++ [wr .ctrl 2, .response ⟨Instr.off.opcode, .ok, 0⟩]) ∧
    ∃ t, exec (.setduty 101) (bench running) = .next t ∧
      t.trace = (bench running).trace ++ [.response ⟨(Instr.setduty 101).opcode, .error .configError, 0⟩] :=
  ⟨bench_running_inv [], ⟨_, rfl, by decide⟩, _, rfl, by decide⟩

/-- The clauses on an accepted PBSTART and on the sequencer: an exit, a seq_load that goes on, one that fails with the
channel never configured; and on attach, a tick and a host write. -/
theorem test_witness_ControllerStateMoves_transitions :
    (preconditionError (bench running) (.pbstart 0x1000 3 1) = none ∧ (bench running).regs.detached = false ∧
      ∃ t, exec (.pbstart 0x1000 3 1) (bench running) = .next t) ∧
    ((bench (session .check 3 0) [.sequencer]).Inv ∧
      (bench (session .check 3 0) [.sequencer]).nextInput = .sequencer ∧
      (regsOf (step (bench (session .check 3 0) [.sequencer]))).map (fun r => (r.seqState, r.ctlState)) =
        some (.idle, .configuredOff)) ∧
    ((bench (session .load 1 0) [.sequencer]).Inv ∧
      (regsOf (step (bench (session .load 1 0) [.sequencer]))).map (fun r => (r.seqState, r.ctlState)) =
        some (.sleep, .running)) ∧
    ((bench (session .load 1 0 Regs.reset) [.sequencer] [4]).Inv ∧
      (regsOf (step (bench (session .load 1 0 Regs.reset) [.sequencer] [4]))).map (fun r => (r.seqState, r.ctlState)) =
        some (.check, .configuredOff)) ∧
    ∀ x ∈ ([.attach, .tick, .hostStore 0 1] : List Input), (bench running [x]).nextInput = x :=
  ⟨⟨by decide, rfl, _, rfl⟩, ⟨bench_session_inv _ _ _ _ (.inl ⟨rfl, by decide, rfl⟩), rfl, by decide⟩,
    ⟨bench_session_inv _ _ _ _ (.inr (.inl ⟨rfl, by decide, rfl⟩)), by decide⟩,
    ⟨⟨platform_valid, by constructor <;> decide, by decide, by decide⟩, by decide⟩, by decide⟩

theorem test_witness_SeqCheckGoesOn : (bench (session .check 2 0) [.sequencer]).nextInput = .sequencer ∧
    (session .check 2 0).seqState = .check ∧ (session .check 2 0).pbErr = none ∧
    (session .check 2 0).active = true ∧ (session .check 2 0).cursor ≠ (session .check 2 0).bufLen := by decide

theorem test_witness_SeqExitEndsTheSession : (bench (session .check 3 0) [.sequencer]).nextInput = .sequencer ∧
    (session .check 3 0).seqState = .check ∧ (session .check 3 0).cursor = (session .check 3 0).bufLen ∧
    (session .check 3 0).pbErr = none ∧
    { session .check 1 0 with pbErr := some .ioError }.pbErr = some .ioError ∧
    (bench (session .check 3 0)).accepts (muxAnswers (bench (session .check 3 0)) + 1) :=
  ⟨rfl, rfl, rfl, rfl, rfl, bench_accepts _ _ (by decide)⟩

theorem test_witness_FailingExitStillEndsTheSession :
    (bench { session .check 1 0 with active := false } [.sequencer] [0]).nextInput = .sequencer ∧
    { session .check 1 0 with active := false }.active = false ∧ (session .check 1 0).seqState = .check ∧
    (session .check 1 0).pbErr = none ∧ muxAnswers (bench (session .check 1 0)) = 0 ∧
    (bench (session .check 1 0) [.sequencer] [0]).accepts 0 ∧
    (bench (session .check 1 0) [.sequencer] [0]).answer 0 = .failed := by decide

/-- The clauses with the mux not yet saved: the control write fails after the save, the mux read fails, the mux write
fails. -/
theorem test_witness_FailingExitStillEndsTheSession_mux : (session .check 3 0 Regs.reset).muxSaved = false ∧
    (session .check 3 0 Regs.reset).cursor = (session .check 3 0 Regs.reset).bufLen ∧
    muxAnswers (bench (session .check 3 0 Regs.reset)) = 2 ∧
    ((bench (session .check 3 0 Regs.reset) [.sequencer] [2]).accepts 2 ∧
      (bench (session .check 3 0 Regs.reset) [.sequencer] [2]).answer 2 = .failed) ∧
    (bench (session .check 3 0 Regs.reset) [.sequencer] [0]).answer 0 = .failed ∧
    (bench (session .check 3 0 Regs.reset) [.sequencer] [1]).answer 0 = .done 0x0104 ∧
    (bench (session .check 3 0 Regs.reset) [.sequencer] [1]).answer 1 = .failed := by decide

theorem test_witness_SeqLoadPlaysOneSample : (bench (session .load 0 0) [.sequencer]).nextInput = .sequencer ∧
    (session .load 0 0).seqState = .load ∧ clampFreq platform platform.baseClock.toInt ≠ 0 ∧
    asU32 (computeReload (clampFreq platform platform.baseClock.toInt) platform.inputFreq) ≠ 0xFFFFFFFE ∧
    dutyFromSample ((bench (session .load 0 0)).mem.read (0x1000 : Word).toNat) = 0 ∧
    dutyFromSample ((bench (session .load 1 0)).mem.read (0x1001 : Word).toNat) = 50 ∧
    computeMatch 50 (0xFFFFFFE0 : Word).toNat (numCounts (0xFFFFFFE0 : Word).toNat) = some 0xFFFFFFEF ∧
    (bench (session .load 0 0)).accepts 7 :=
  ⟨rfl, rfl, by decide, by decide, by decide, by decide, by decide, bench_accepts _ _ (by decide)⟩

theorem test_witness_SeqLoadRecordsItsError :
    (bench (session .load 1 0) [.sequencer]).nextInput = .sequencer ∧ (session .load 1 0).seqState = .load ∧
    clampFreq { platform with baseClock := 1 } (1 : Word).toInt = 0 ∧
    (clampFreq { platform with baseClock := 16384 } (16384 : Word).toInt ≠ 0 ∧
      asU32 (computeReload (clampFreq platform (16384 : Word).toInt) 32768) = 0xFFFFFFFE ∧
      dutyFromSample 3 ≠ 0 ∧ (bench (session .load 1 0)).accepts 2) ∧
    clampFreq platform platform.baseClock.toInt ≠ 0 ∧
    asU32 (computeReload (clampFreq platform platform.baseClock.toInt) platform.inputFreq) ≠ 0xFFFFFFFE ∧
    dutyFromSample ((bench (session .load 0 0)).mem.read (0x1000 : Word).toNat) = 0 ∧
    dutyFromSample ((bench (session .load 1 0)).mem.read (0x1001 : Word).toNat) = 50 ∧
    computeMatch 50 (0xFFFFFFE0 : Word).toNat (numCounts (0xFFFFFFE0 : Word).toNat) = some 0xFFFFFFEF :=
  ⟨rfl, rfl, by decide, ⟨by decide, by decide, by decide, bench_accepts _ _ (by decide)⟩, by decide, by decide, by decide,
    by decide, by decide⟩

/-- The access of a seq_load that fails: its first five with the mux saved, and with the mux not yet saved the mux read,
the mux write, and the first and the last of the five after them. -/
theorem test_witness_SeqLoadRecordsItsError_accesses :
    muxAnswers (bench (session .load 1 0)) = 0 ∧ muxAnswers (bench (session .load 1 0 Regs.reset)) = 2 ∧
    (∀ k ∈ ([0, 1, 2, 3, 4] : List Nat), (bench (session .load 1 0) [.sequencer] [k]).accepts k ∧
      (bench (session .load 1 0) [.sequencer] [k]).answer k = .failed) ∧
    (session .load 1 0 Regs.reset).muxSaved = false ∧
    (bench (session .load 1 0 Regs.reset) [.sequencer] [0]).answer 0 = .failed ∧
    (bench (session .load 1 0 Regs.reset) [.sequencer] [1]).answer 0 = .done 0x0104 ∧
    (bench (session .load 1 0 Regs.reset) [.sequencer] [1]).answer 1 = .failed ∧
    ∀ k ∈ ([2, 6] : List Nat), (bench (session .load 1 0 Regs.reset) [.sequencer] [k]).accepts k ∧
      (bench (session .load 1 0 Regs.reset) [.sequencer] [k]).answer k = .failed := by decide

theorem test_witness_TickCountsOnlyTheSleep : (bench (session .sleep 1 1) [.tick]).nextInput = .tick ∧
    (session .sleep 1 1).seqState = .sleep ∧ 0 < (session .sleep 1 1).sleepCnt.toNat ∧
    (session .sleep 1 0).sleepCnt = 0 ∧ (session .load 1 0).seqState ≠ .sleep := by decide

theorem test_witness_SeqAdvanceMovesTheCursor : (bench (session .sleep 2 0) [.sequencer]).Inv ∧
    (bench (session .sleep 2 0) [.sequencer]).nextInput = .sequencer ∧ (session .sleep 2 0).seqState = .sleep ∧
    (session .sleep 2 0).sleepCnt = 0 :=
  ⟨bench_session_inv _ _ _ _ (.inr (.inr ⟨rfl, by decide, by decide⟩)), rfl, rfl, rfl⟩

theorem test_witness_SequencerTurnWithNothingEnabled :
    (bench Regs.reset [.sequencer]).nextInput = .sequencer ∧ Regs.reset.seqState = .idle ∧
    (session .sleep 1 1).seqState = .sleep ∧ (session .sleep 1 1).sleepCnt ≠ 0 := by decide

theorem test_witness_HostStoreChangesOneByte : (bench Regs.reset).mem.wf ∧
    (bench Regs.reset [.hostStore 0xFFFFFFFF 7]).nextInput = .hostStore 0xFFFFFFFF 7 := by decide

theorem test_witness_AttachIsReset : (bench { running with detached := true } [.attach]).nextInput = .attach := by decide

theorem test_witness_StepKeepsTheInvariants : (bench (session .sleep 2 0) [.sequencer]).Inv ∧
    ∃ t, step (bench (session .sleep 2 0) [.sequencer]) = .next t :=
  ⟨bench_session_inv _ _ _ _ (.inr (.inr ⟨rfl, by decide, by decide⟩)), _, rfl⟩

theorem test_witness_ReachableStatesMeetR41 : (bench Regs.reset [wordOf (.setpol 1)]).regs = State.reset.regs ∧
    (bench Regs.reset [wordOf (.setpol 1)]).platform.Valid ∧ (bench Regs.reset [wordOf (.setpol 1)]).mem.wf ∧
    ∃ t, Sys2Proof.core.run 1 (bench Regs.reset [wordOf (.setpol 1)]) = .next t :=
  ⟨rfl, platform_valid, by decide, _, rfl⟩

/-- For the statements about every step: one that adds events. -/
theorem test_witness_of_every_step : ∃ t, step (bench Regs.reset [wordOf (.setpol 1)]) = .next t ∧
    t.trace = (bench Regs.reset).trace ++ (mux ++ [wr .ctrl 0x82, resp 0x05 .ok 0]) ∧
    (bench Regs.reset [wordOf (.setpol 1)]).nextInput ≠ .attach ∧
    ∀ a b, (bench Regs.reset [wordOf (.setpol 1)]).nextInput ≠ .hostStore a b :=
  ⟨_, rfl, by decide, by decide, fun a b h => by cases h⟩

theorem test_witness_TimerAddressesLieInThePage : platform.Valid := platform_valid

theorem test_witness_OnlyAttachForgets : (bench running [wordOf .off]).nextInput ≠ .attach ∧
    running.configured = true ∧ running.muxSaved = true ∧ { running with detached := true }.detached = true ∧
    ∃ t, step (bench running [wordOf .off]) = .next t :=
  ⟨by decide, rfl, rfl, rfl, _, rfl⟩

theorem test_witness_WritersOfTheSessionRegisters :
    (bench running [wordOf (.pbstart 0x1000 3 1)]).nextInput ≠ .attach ∧
    ∃ t, step (bench running [wordOf (.pbstart 0x1000 3 1)]) = .next t ∧ t.regs.bufLen = 3 :=
  ⟨by decide, _, rfl, by decide⟩

theorem test_witness_SessionsEndWithTheirResponse :
    (Regs.reset.seqState = .idle ∧ ∃ t, step (bench Regs.reset [wordOf (.pbstart 0x1000 3 1)]) = .next t ∧
      t.regs.seqState ≠ .idle) ∧
    ((session .check 3 0).seqState ≠ .idle ∧ ∃ t, step (bench (session .check 3 0) [.sequencer]) = .next t ∧
      t.regs.seqState = .idle) :=
  ⟨⟨rfl, _, rfl, by decide⟩, by decide, _, rfl, by decide⟩

theorem test_witness_UninterruptedSessionPlaysEverySample :
    (bench (session .check 0 0) (sessionInputs 1 3 ++ [wordOf .off])).Inv ∧ (session .check 0 0).seqState = .check ∧
    (session .check 0 0).active = true ∧ (session .check 0 0).pbErr = none ∧ (session .check 0 0).cursor = 0 ∧
    (session .check 0 0).bufLen.toNat = 3 ∧
    3 ≤ platform.inputFreq / (clampFreq platform platform.baseClock.toInt).toNat ∧
    clampFreq platform platform.baseClock.toInt ≠ 0 ∧
    (bench (session .check 0 0) (sessionInputs 1 3 ++ [wordOf .off])).inputs =
      sessionInputs (session .check 0 0).interval.toNat 3 ++ [wordOf .off] ∧
    (bench (session .check 0 0)).accepts (5 * 3 + 3) :=
  ⟨bench_session_inv _ _ _ _ (.inl ⟨rfl, by decide, rfl⟩), rfl, rfl, rfl, rfl, rfl, by decide, by decide, rfl,
    bench_accepts _ _ (by decide)⟩

theorem test_witness_StoppedSessionDrains : ∃ s : State, s.Inv ∧ s.regs.active = false ∧ s.regs.seqState = .sleep ∧
    s.regs.sleepCnt ≠ 0 ∧ s.nextInput = .tick ∧ ∃ t, step s = .next t :=
  ⟨bench (session .sleep 1 1).clearActive [.tick],
    ⟨platform_valid, by
      have h := session_items .sleep 1 1 (.inr (.inr ⟨rfl, by decide, by decide⟩))
      exact ⟨h.item1, h.item2, h.item3, (fun h => by cases h), h.item5, h.item6, fun _ => rfl, h.item8, h.item9, h.item10,
        h.item11⟩, fun _ => by decide,
      show (bench Regs.reset).mem.wf by decide⟩, rfl, rfl, by decide, rfl, _, rfl⟩

end Sys2Proof.Tests
end

section
/-! The reset values of spec/10_state.md R45, and what follows from them. -/

namespace Sys2Proof.Machine

/-- The second arm of R25: an attached block that holds no reload value yet is UNCONFIGURED, whatever its flags are. -/
theorem Regs.ctlState_eq_unconfigured {r : Regs} (hd : r.detached = false) (hc : r.configured = false) :
    r.ctlState = .unconfigured := by
  simp [Regs.ctlState, hd, hc]

/-- Reset leaves only autoreload set, which R31 places in bit 1. -/
theorem ctrlWord_reset_flags : ctrlWord Regs.reset.flags = 0x00000002 := by
  decide

/-- Settles O46: the table is the definition of the reset state, the controller state follows from `detached` and
`configured` by R25, and the control word from the flags by R31. -/
theorem resetValues : Obligations.ResetValues := by
  unfold Obligations.ResetValues
  have attached : State.reset.regs.detached = false := rfl
  have noReload : State.reset.regs.configured = false := rfl
  exact ⟨rfl, Regs.ctlState_eq_unconfigured attached noReload, ctrlWord_reset_flags, rfl⟩

end Sys2Proof.Machine
end

section
/-! The opcode table of spec/30_encoding.md R97 read field by field (R91), the words it makes legal, and what the block
does with the others (R98). -/

namespace Sys2Proof.Machine

/-! ### The conditions on the fields of a legal word -/

/-- The opcodes of R96, in the order of the table. -/
def opcodes : List (BitVec 8) :=
  [0x01, 0x02, 0x03, 0x04, 0x05, 0x06, 0x07, 0x08, 0x10, 0x11, 0x12, 0x13, 0x20]

/-- The opcodes of the commands that use the operand `a` (R96). -/
def opcodesWithA : List (BitVec 8) := [0x01, 0x02, 0x05, 0x06, 0x10]

/-- What R98 asks of the fields below the opcode: `rsv` is 0, so is an operand that the command does not use, and the
operand of SETPOL is 0 or 1. `legal_iff` and `row_matches_iff` tie this to the decoder and to the table. -/
def FieldsLegal (w : CommandWord) : Prop :=
  cmdRsv w = 0 ∧
  (cmdOp w ≠ 0x10 → cmdC w = 0 ∧ cmdB w = 0) ∧
  (cmdOp w ∉ opcodesWithA → cmdA w = 0) ∧
  (cmdOp w = 0x05 → (cmdA w).toNat ≤ 1)

/-! ### The decoder -/

theorem decodePlain_eq_ok_iff {w : CommandWord} {i j : Instr} :
    decodePlain w i = .ok j ↔ (cmdC w = 0 ∧ cmdB w = 0 ∧ cmdA w = 0) ∧ i = j := by
  unfold decodePlain
  split <;> simp_all

theorem decodeUnary_eq_ok_iff {w : CommandWord} {f : Word → Instr} {j : Instr} :
    decodeUnary w f = .ok j ↔ (cmdC w = 0 ∧ cmdB w = 0) ∧ f (cmdA w) = j := by
  unfold decodeUnary
  split <;> simp_all

/-- A word decodes exactly when R98 finds nothing illegal in it. -/
theorem legal_iff (w : CommandWord) : (∃ i, decode w = .ok i) ↔ cmdOp w ∈ opcodes ∧ FieldsLegal w := by
  unfold decode
  split
  · next hrsv => simp_all [FieldsLegal]
  next hrsv =>
    split
    case h_14 =>
      have unknown : cmdOp w ∉ opcodes := by simp_all [opcodes, BitVec.toNat_eq]
      simp [unknown]
    case h_5 hop =>
      obtain ⟨-, hop⟩ := BitVec.toNat_eq_nat.mp hop
      split <;> simp_all [decodeUnary_eq_ok_iff, FieldsLegal, opcodes, opcodesWithA]
    all_goals
      next hop =>
        obtain ⟨-, hop⟩ := BitVec.toNat_eq_nat.mp hop
        simp_all [decodeUnary_eq_ok_iff, decodePlain_eq_ok_iff, FieldsLegal, opcodes, opcodesWithA, and_assoc]

/-- The command that a word decodes to has the word's opcode. -/
theorem opcode_of_decode {w : CommandWord} {i : Instr} (h : decode w = .ok i) : i.opcode = cmdOp w := by
  unfold decode at h
  split at h
  · cases h
  split at h
  case h_5 hop =>
    split at h
    · obtain ⟨-, rfl⟩ := decodeUnary_eq_ok_iff.mp h
      exact (BitVec.toNat_eq_nat.mp hop).2.symm
    · cases h
  case h_9 hop =>
    obtain rfl := Except.ok.inj h
    exact (BitVec.toNat_eq_nat.mp hop).2.symm
  case h_14 => cases h
  all_goals
    next hop =>
      simp only [decodeUnary_eq_ok_iff, decodePlain_eq_ok_iff] at h
      obtain ⟨-, rfl⟩ := h
      exact (BitVec.toNat_eq_nat.mp hop).2.symm

/-! ### The table -/

@[simp] theorem cmdOp_and (v w : CommandWord) : cmdOp (v &&& w) = cmdOp v &&& cmdOp w := BitVec.extractLsb'_and
@[simp] theorem cmdRsv_and (v w : CommandWord) : cmdRsv (v &&& w) = cmdRsv v &&& cmdRsv w := BitVec.extractLsb'_and
@[simp] theorem cmdC_and (v w : CommandWord) : cmdC (v &&& w) = cmdC v &&& cmdC w := BitVec.extractLsb'_and
@[simp] theorem cmdB_and (v w : CommandWord) : cmdB (v &&& w) = cmdB v &&& cmdB w := BitVec.extractLsb'_and
@[simp] theorem cmdA_and (v w : CommandWord) : cmdA (v &&& w) = cmdA v &&& cmdA w := BitVec.extractLsb'_and

/-- The mnemonics and opcodes of the table's rows are those of R96. -/
theorem opcodeRows_names_ops : opcodeRows.map (fun row => (row.name, cmdOp row.fixed)) =
    [("CFGFREQ", 0x01), ("SETDUTY", 0x02), ("ON", 0x03), ("OFF", 0x04), ("SETPOL", 0x05), ("SETPRE", 0x06),
      ("GETDUTY", 0x07), ("GETFREQ", 0x08), ("PBSTART", 0x10), ("PBSTOP", 0x11), ("PBSYNC", 0x12), ("PBPOS", 0x13),
      ("DETACH", 0x20)] := by decide

/-- A mask keeps every bit of `op` and `rsv`, no bit of an operand the command uses (SETPOL keeps all of `a` but its
lowest bit) and every bit of one it does not; the value to match is 0 but for `op`. -/
theorem row_fields : ∀ row ∈ opcodeRows,
    (cmdRsv row.fixed = 0 ∧ cmdC row.fixed = 0 ∧ cmdB row.fixed = 0 ∧ cmdA row.fixed = 0) ∧
    cmdOp row.mask = BitVec.allOnes 8 ∧ cmdRsv row.mask = BitVec.allOnes 24 ∧
    cmdC row.mask = (if cmdOp row.fixed = 0x10 then 0 else BitVec.allOnes 32) ∧
    cmdB row.mask = (if cmdOp row.fixed = 0x10 then 0 else BitVec.allOnes 32) ∧
    cmdA row.mask = (if cmdOp row.fixed = 0x05 then ~~~1 else
      if cmdOp row.fixed ∈ opcodesWithA then 0 else BitVec.allOnes 32) := by decide

theorem op_mem_opcodes : ∀ row ∈ opcodeRows, cmdOp row.fixed ∈ opcodes := by decide

theorem row_eq_of_op_eq : ∀ row ∈ opcodeRows, ∀ row' ∈ opcodeRows,
    cmdOp row.fixed = cmdOp row'.fixed → row = row' := by decide

theorem row_eq_of_name_eq : ∀ row ∈ opcodeRows, ∀ row' ∈ opcodeRows,
    row.name = row'.name → row = row' := by decide

/-- The row of a command: it has the command's mnemonic and its opcode. -/
theorem exists_row (i : Instr) : ∃ row ∈ opcodeRows, row.name = mnemonic i ∧ cmdOp row.fixed = i.opcode := by
  have listed : (mnemonic i, i.opcode) ∈ opcodeRows.map (fun row => (row.name, cmdOp row.fixed)) := by
    rw [opcodeRows_names_ops]
    cases i <;> simp [mnemonic, Instr.opcode]
  obtain ⟨row, hrow, hpair⟩ := List.mem_map.mp listed
  obtain ⟨hname, hop⟩ := Prod.mk.inj hpair
  exact ⟨row, hrow, hname, hop⟩

/-- SETPOL's mask: every bit of the operand but the lowest is 0 exactly when the operand is 0 or 1. -/
theorem and_not_one_eq_zero_iff (a : Word) : a &&& ~~~1 = 0 ↔ a.toNat ≤ 1 := by
  have bits : a = (a &&& 1) ||| (a &&& ~~~1) := by
    rw [← BitVec.and_or_distrib_left, BitVec.or_not_self, BitVec.and_allOnes]
  constructor
  · intro h
    have low : a.toNat = a.toNat % 2 := by
      rw [h] at bits
      simpa using congrArg BitVec.toNat bits
    omega
  · intro h
    obtain rfl | rfl : a = 0 ∨ a = 1 := by bv_omega
    · rfl
    · rfl

/-- A word is matched under a mask field by field. -/
theorem and_eq_iff_fields {w m f : CommandWord} : w &&& m = f ↔
    cmdOp w &&& cmdOp m = cmdOp f ∧ cmdRsv w &&& cmdRsv m = cmdRsv f ∧ cmdC w &&& cmdC m = cmdC f ∧
      cmdB w &&& cmdB m = cmdB f ∧ cmdA w &&& cmdA m = cmdA f := by
  constructor
  · rintro rfl
    simp
  · rintro ⟨hop, hrsv, hc, hb, ha⟩
    exact cmdWord_ext ((cmdOp_and w m).trans hop) ((cmdRsv_and w m).trans hrsv) ((cmdC_and w m).trans hc)
      ((cmdB_and w m).trans hb) ((cmdA_and w m).trans ha)

/-- What a mask asks that lets an operand through where `p` holds and keeps every bit of it elsewhere. -/
theorem and_ite_allOnes_eq_zero_iff (p : Prop) [Decidable p] (x : Word) :
    x &&& (if p then 0 else BitVec.allOnes 32) = 0 ↔ (¬ p → x = 0) := by
  by_cases hp : p
  · rw [if_pos hp]
    exact ⟨fun _ h => absurd hp h, fun _ => BitVec.and_zero⟩
  · rw [if_neg hp, BitVec.and_allOnes]
    exact ⟨fun h _ => h, fun h => h hp⟩

/-- What the mask of `a` in the row with opcode `op` asks of that operand. -/
theorem and_maskA_eq_zero_iff (op : BitVec 8) (a : Word) :
    a &&& (if op = 0x05 then ~~~1 else if op ∈ opcodesWithA then 0 else BitVec.allOnes 32) = 0 ↔
      (op ∉ opcodesWithA → a = 0) ∧ (op = 0x05 → a.toNat ≤ 1) := by
  by_cases pol : op = 0x05
  · have used : op ∈ opcodesWithA := by rw [pol]; decide
    rw [if_pos pol, and_not_one_eq_zero_iff]
    exact ⟨fun h => ⟨fun unused => absurd used unused, fun _ => h⟩, fun h => h.2 pol⟩
  · rw [if_neg pol, and_ite_allOnes_eq_zero_iff]
    exact ⟨fun h => ⟨h, fun h' => absurd h' pol⟩, And.left⟩

/-- A word matches a row exactly when it has the row's opcode and R98 finds nothing illegal in its other fields. -/
theorem row_matches_iff {w : CommandWord} {row : OpcodeRow} (h : row ∈ opcodeRows) :
    w &&& row.mask = row.fixed ↔ cmdOp w = cmdOp row.fixed ∧ FieldsLegal w := by
  obtain ⟨⟨frsv, fc, fb, fa⟩, mop, mrsv, mc, mb, ma⟩ := row_fields row h
  rw [and_eq_iff_fields, mop, mrsv, mc, mb, ma, frsv, fc, fb, fa, BitVec.and_allOnes, BitVec.and_allOnes]
  refine and_congr_right fun hop => ?_
  rw [← hop, and_ite_allOnes_eq_zero_iff, and_ite_allOnes_eq_zero_iff, and_maskA_eq_zero_iff,
    ← and_assoc (a := _ → _), ← imp_and]
  exact Iff.rfl

/-- A word that decodes to a command matches the row with that command's mnemonic (R97). -/
theorem row_matches_of_decode {w : CommandWord} {i : Instr} {row : OpcodeRow} (hrow : row ∈ opcodeRows)
    (h : decode w = .ok i) (hname : mnemonic i = row.name) : w &&& row.mask = row.fixed := by
  obtain ⟨row', hrow', hname', hop⟩ := exists_row i
  obtain rfl := row_eq_of_name_eq row' hrow' row hrow (hname'.trans hname)
  obtain ⟨-, hlegal⟩ := (legal_iff w).mp ⟨i, h⟩
  exact (row_matches_iff hrow).mpr ⟨(hop.trans (opcode_of_decode h)).symm, hlegal⟩

/-- A word that matches a row decodes to a command with that row's mnemonic (R97). -/
theorem decode_of_row_matches {w : CommandWord} {row : OpcodeRow} (hrow : row ∈ opcodeRows)
    (h : w &&& row.mask = row.fixed) : ∃ i, decode w = .ok i ∧ mnemonic i = row.name := by
  obtain ⟨hop, hlegal⟩ := (row_matches_iff hrow).mp h
  have known : cmdOp w ∈ opcodes := by
    rw [hop]
    exact op_mem_opcodes row hrow
  obtain ⟨i, hi⟩ := (legal_iff w).mpr ⟨known, hlegal⟩
  obtain ⟨row', hrow', hname, hop'⟩ := exists_row i
  have same : row' = row := row_eq_of_op_eq row' hrow' row hrow (hop'.trans ((opcode_of_decode hi).trans hop))
  exact ⟨i, hi, by rw [← hname, same]⟩

/-- Settles O3: the row a word matches and the command it decodes to have the same mnemonic, and no two rows share
one. -/
theorem legalWordsAreTheRowsOfTheTable : Obligations.LegalWordsAreTheRowsOfTheTable := by
  unfold Obligations.LegalWordsAreTheRowsOfTheTable
  refine fun w => ⟨⟨?_, ?_⟩, fun row hrow => ⟨decode_of_row_matches hrow, ?_⟩⟩
  · rintro ⟨i, hi⟩
    obtain ⟨row, hrow, hname, -⟩ := exists_row i
    refine ⟨row, ⟨hrow, row_matches_of_decode hrow hi hname.symm⟩, ?_⟩
    rintro row' ⟨hrow', hmatch'⟩
    obtain ⟨i', hi', hname'⟩ := decode_of_row_matches hrow' hmatch'
    have same : i' = i := Except.ok.inj (hi'.symm.trans hi)
    exact row_eq_of_name_eq row' hrow' row hrow (by rw [← hname', same, hname])
  · rintro ⟨row, ⟨hrow, hmatch⟩, -⟩
    obtain ⟨i, hi, -⟩ := decode_of_row_matches hrow hmatch
    exact ⟨i, hi⟩
  · rintro ⟨i, hi, hname⟩
    exact row_matches_of_decode hrow hi hname

/-! ### Illegal words -/

/-- The decoder is total, so a word is illegal where it is not legal. -/
theorem illegal_iff (w : CommandWord) : (∃ e, decode w = .error e) ↔ ¬ (cmdOp w ∈ opcodes ∧ FieldsLegal w) := by
  rw [← legal_iff]
  cases decode w <;> simp

/-- A step that takes an illegal word raises IllegalCommand and does nothing else, withdrawn or not (R98, R266). -/
theorem step_of_illegal {s : State} {w : CommandWord} {withdrawn : Bool} {e : Illegal}
    (hin : s.nextInput = .command w withdrawn) (h : decode w = .error e) :
    step s = .next (takeError (cmdOp w) .illegalCommand s.inputTaken) := by
  rw [step, hin, transition, present, h]

/-- Settles O6: the list of illegal words is the negation of `legal_iff`, clause by clause, and the guard answers such a
word before it looks at the withdrawal or at the block. -/
theorem illegalWordIsOnlyAnswered : Obligations.IllegalWordIsOnlyAnswered := by
  unfold Obligations.IllegalWordIsOnlyAnswered
  constructor
  · intro w
    simp only [illegal_iff, FieldsLegal, opcodes, opcodesWithA, not_and_or, Classical.not_imp, Nat.not_le, ne_eq]
  · intro s w withdrawn e hin h
    exact step_of_illegal hin h

end Sys2Proof.Machine
end

section
/-! The pure functions of spec/40_timer_register_model.md (R120): the clamped frequency (R121), the duty cycle of a match
value (R129) and of a sample byte (R130), and the logarithm of a divisor (R132). -/

namespace Sys2Proof.Machine

/-! ### The clamped frequency -/

/-- The frequency that R121 has before it clears bit 0: the fallback, then the cap. -/
def cappedFreq (p : Config.Platform) (req : Int) : Int :=
  min (if req ≤ 0 then p.defaultFreq.toInt else req) ((p.inputFreq / 2 : Nat) : Int)

theorem clampFreq_eq (p : Config.Platform) (req : Int) :
    clampFreq p req = cappedFreq p req - cappedFreq p req % 2 := by
  by_cases hreq : req ≤ 0
  · simp only [clampFreq, asI32, cappedFreq, if_pos hreq]
    split <;> omega
  · simp only [clampFreq, cappedFreq, if_neg hreq]
    split <;> omega

/-- The capped frequency is positive, because the fallback and the cap are. -/
theorem cappedFreq_pos {p : Config.Platform} (hp : p.Valid) (req : Int) : 1 ≤ cappedFreq p req := by
  have hdefault := hp.default_pos
  have hinput := hp.input_min
  unfold cappedFreq
  split <;> omega

theorem cappedFreq_le (p : Config.Platform) (req : Int) : cappedFreq p req ≤ ((p.inputFreq / 2 : Nat) : Int) :=
  min_le_right _ _

/-- The cap is at least 2, so that it never makes a frequency 1. -/
theorem cappedFreq_eq_one_iff {p : Config.Platform} (hp : p.Valid) (req : Int) :
    cappedFreq p req = 1 ↔ req = 1 ∨ (req ≤ 0 ∧ p.defaultFreq.toInt = 1) := by
  have hinput := hp.input_min
  unfold cappedFreq
  split <;> omega

/-- Settles O9: clearing bit 0 of the capped value, which is positive, gives an even number that is 0 only for 1. -/
theorem clampedFrequencyIsEvenAndCapped : Obligations.ClampedFrequencyIsEvenAndCapped := by
  unfold Obligations.ClampedFrequencyIsEvenAndCapped
  refine ⟨?_, fun _ => opConfigureFrequency_zero, ?_⟩
  · intro p req hp
    have hclamp := clampFreq_eq p req
    have hpos := cappedFreq_pos hp req
    have hcap := cappedFreq_le p req
    have zero_iff : clampFreq p req = 0 ↔ cappedFreq p req = 1 := by omega
    exact ⟨hclamp, by omega, by omega, by omega, zero_iff, zero_iff.trans (cappedFreq_eq_one_iff hp req)⟩
  · intro p hinput hdefault
    simp only [clampFreq, hinput, hdefault]
    decide

/-! ### The duty cycle read back -/

/-- At least one of `n` counts, and at most all of them, are between 0 and 100 percent. -/
theorem percent_range {part n : Int} (hpart : 1 ≤ part) (hle : part ≤ n) :
    0 ≤ 100 * part / n ∧ 100 * part / n ≤ 100 :=
  ⟨Int.ediv_nonneg (by omega) (by omega), Int.ediv_le_of_le_mul (by omega) (by omega)⟩

/-- Settles O12: a match value in the range of R129 is offset from the reload value by part of the period. -/
theorem dutyReadBackRange : Obligations.DutyReadBackRange := by
  unfold Obligations.DutyReadBackRange
  refine ⟨?_, by decide, by decide, by decide, by decide, ?_⟩
  · intro mtch reload hlow hhigh
    have hcounts : numCounts reload = 0xFFFFFFFE - reload := rfl
    have hoffset : 1 ≤ mtch - reload := by omega
    have hperiod : mtch - reload ≤ numCounts reload := by omega
    exact ⟨by omega, hoffset, hperiod, rfl, percent_range hoffset hperiod⟩
  · intro reload hcounts
    have hoffset : reload + 1 - reload = 1 := by omega
    rw [dutyOf, hcounts, hoffset]
    decide

/-! ### The duty cycle of a sample -/

theorem dutyFromSample_eq (b : Byte) : dutyFromSample b = ((b.toNat * 100 / 256 : Nat) : Int) := by
  simp [dutyFromSample]

/-- Settles O13: a byte is below 256, so it gives less than 100 percent. -/
theorem sampleDutyRange : Obligations.SampleDutyRange := by
  unfold Obligations.SampleDutyRange
  refine ⟨?_, by decide, by decide, by decide, by decide⟩
  intro b
  have hvalue := dutyFromSample_eq b
  have hbyte : b.toNat < 2 ^ 8 := b.isLt
  exact ⟨hvalue, by omega, by omega, by omega⟩

/-! ### The logarithm of a divisor -/

/-- The loop of R132 finds the position of the highest set bit of every number its rounds can reach. -/
theorem halvings_eq_log2 {fuel d : Nat} (hd : d < 2 ^ fuel) : halvings fuel d = d.log2 := by
  induction fuel generalizing d with
  | zero =>
    obtain rfl : d = 0 := by omega
    rfl
  | succ fuel ih =>
    rw [halvings, Nat.log2_def]
    split
    · next h => rw [if_pos (by omega), ih (by omega)]
    · next h => rw [if_neg (by omega)]

theorem log2Floor_eq_log2 {d : Nat} (hd : d < 2 ^ 32) : log2Floor d = d.log2 :=
  halvings_eq_log2 hd

/-- SETPRE answers ConfigError to a divisor below 1 and to a ratio that does not fit its three bits (R165). -/
theorem bodySetpre_configError {d : Int} (s : State) (h : d < 1 ∨ 7 < log2Floor d.toNat) :
    bodySetpre d s = .raised .configError s := by
  rcases bodySetpre_cases d s with ⟨-, hraised⟩ | ⟨hpos, hratio, -⟩
  · exact hraised
  · omega

/-- Settles O14: in 32 bits the loop is `Nat.log2`, which has the recursion and the bounds. -/
theorem logIsTheHighestBit : Obligations.LogIsTheHighestBit := by
  unfold Obligations.LogIsTheHighestBit
  refine ⟨⟨by decide, ?_⟩, fun _ s h => bodySetpre_configError s h, ?_, by decide⟩
  · intro d hmin hmax
    rw [log2Floor_eq_log2 hmax, log2Floor_eq_log2 (by omega), Nat.log2_def, if_pos hmin]
  · intro d hmin hmax
    rw [log2Floor_eq_log2 hmax]
    exact ⟨Nat.log2_self_le (by omega), Nat.lt_log2_self⟩

end Sys2Proof.Machine
end

section
/-! The withdrawn commands of spec/60_exceptions.md R264: which commands can be withdrawn (R96, R244), and the answer to
one that is. -/

namespace Sys2Proof.Machine

/-- The guard answers a withdrawn CFG command before it looks at the block, DETACHED or not (R151, R244). -/
theorem step_of_withdrawn {s : State} {w : CommandWord} {i : Instr}
    (hin : s.nextInput = .command w true) (h : decode w = .ok i) (hcfg : classOf i = .cfg) :
    step s = .next (takeError i.opcode .cancelledError s.inputTaken) := by
  rw [step, hin, transition, present, h]
  exact if_pos ⟨rfl, hcfg⟩

/-- An error raised as soon as the input is taken only adds its response, with value 0 (R101, R267). -/
theorem takeError_inputTaken (op : BitVec 8) (e : ErrorKind) (s : State) :
    takeError op e s.inputTaken = { s with
      inputs := s.inputs.drop 1
      inputNo := s.inputNo + 1
      trace := s.trace ++ [.response ⟨op, .error e, 0⟩] } :=
  rfl

/-- The CFG commands of R96. -/
theorem classOf_cfg_commands (a : Word) :
    ∀ i ∈ ([.cfgfreq a, .setduty a, .on, .off, .setpol a, .setpre a, .getduty, .getfreq] : List Instr),
      classOf i = .cfg := by
  simp only [List.forall_mem_cons]
  exact ⟨rfl, rfl, rfl, rfl, rfl, rfl, rfl, rfl, List.forall_mem_nil _⟩

/-- The PB commands of R96. -/
theorem classOf_pb_commands (a b c : Word) :
    ∀ i ∈ ([.pbstart a b c, .pbstop, .pbsync, .pbpos] : List Instr), classOf i = .pb := by
  simp only [List.forall_mem_cons]
  exact ⟨rfl, rfl, rfl, rfl, List.forall_mem_nil _⟩

/-- Settles O8: the classes are R96's table, and the guard's answer to a withdrawn CFG command is an error raised as soon
as the input is taken. -/
theorem withdrawnCommandIsOnlyAnswered : Obligations.WithdrawnCommandIsOnlyAnswered := by
  unfold Obligations.WithdrawnCommandIsOnlyAnswered
  refine ⟨classOf_cfg_commands, classOf_pb_commands, rfl, rfl, ?_⟩
  intro s w i hin h hcfg
  rw [step_of_withdrawn hin h hcfg, takeError_inputTaken]

end Sys2Proof.Machine
end

section
/-! The encoder against the decoder (spec/30_encoding.md R91, R96, R97), the words of a response (R100, R101), and a legal
word at the command port (spec/43_concurrency_guard.md R240). -/

namespace Sys2Proof.Machine

/-! ### Decode and encode -/

/-- What the decoder makes of the fields of an encoded command. -/
theorem decode_encode (i : Instr) (h : i.WellFormed = true) : decode (encode i) = .ok i := by
  obtain ⟨hop, hrsv, hc, hb, ha⟩ := Laws.encodedFields i
  have reserved : ¬ cmdRsv (encode i) ≠ 0 := not_not.mpr hrsv
  rw [decode, if_neg reserved, hop]
  cases i with
  | setpol a =>
    have hbool : a.toNat ≤ 1 := by simpa [Instr.WellFormed] using h
    simp_all [Instr.opcode, Instr.operands, decodeUnary]
  | _ => simp_all [Instr.opcode, Instr.operands, decodePlain, decodeUnary]

/-- Settles O1: the fields of an encoded command are its opcode and operands, and the decoder reads no others. -/
theorem decodeOfEncode : Obligations.DecodeOfEncode := by
  unfold Obligations.DecodeOfEncode
  exact decode_encode

/-- The command a word decodes to is well-formed and its operands are the word's operand fields (R97): each arm of the
decoder asks that the fields its command does not use are 0. -/
theorem wellFormed_and_operands_of_decode {w : CommandWord} {i : Instr} (h : decode w = .ok i) :
    i.WellFormed = true ∧ i.operands = (cmdC w, cmdB w, cmdA w) := by
  unfold decode at h
  split at h
  · cases h
  split at h
  case h_5 =>
    split at h
    · next hbool =>
        obtain ⟨⟨hc, hb⟩, rfl⟩ := decodeUnary_eq_ok_iff.mp h
        simp [Instr.WellFormed, Instr.operands, hc, hb, hbool]
    · cases h
  case h_9 =>
    obtain rfl := Except.ok.inj h
    exact ⟨rfl, rfl⟩
  case h_14 => cases h
  all_goals
    simp only [decodeUnary_eq_ok_iff, decodePlain_eq_ok_iff] at h
    obtain ⟨fields, rfl⟩ := h
    simp [Instr.WellFormed, Instr.operands, fields]

theorem reserved_of_decode {w : CommandWord} {i : Instr} (h : decode w = .ok i) : cmdRsv w = 0 :=
  ((legal_iff w).mp ⟨i, h⟩).2.1

/-- Settles O2: the word and the encoding of what it decodes to agree in all five fields. -/
theorem encodeOfDecode : Obligations.EncodeOfDecode := by
  unfold Obligations.EncodeOfDecode
  intro w i h
  obtain ⟨hwf, hoperands⟩ := wellFormed_and_operands_of_decode h
  obtain ⟨hop, hrsv, hc, hb, ha⟩ := Laws.encodedFields i
  refine ⟨hwf, cmdWord_ext (hop.trans (opcode_of_decode h)) (hrsv.trans (reserved_of_decode h).symm) ?_ ?_ ?_⟩
  · rw [hc, hoperands]
  · rw [hb, hoperands]
  · rw [ha, hoperands]

/-- Settles O4: each word is evaluated by the decoder, or put together from the three fields of the response. -/
theorem specExampleWords : Obligations.SpecExampleWords := by
  unfold Obligations.SpecExampleWords
  exact ⟨rfl, rfl, rfl, rfl, rfl, rfl, rfl, rfl, rfl, rfl, rfl, rfl, rfl, rfl, rfl, rfl, rfl, ⟨.setpolOperand, rfl⟩, rfl⟩

/-! ### The response word -/

/-- The response word as a number: each field at the place R100 gives it. -/
theorem Response.word_toNat (r : Response) :
    r.word.toNat = r.op.toNat * 2 ^ 40 + r.status.code.toNat * 2 ^ 32 + r.value.toNat := by
  have hstatus : ∀ x y : Nat, y < 2 ^ 32 → x <<< 32 ||| y = x * 2 ^ 32 + y := by
    intro x y h; rw [← Nat.shiftLeft_add_eq_or_of_lt h, Nat.shiftLeft_eq]
  have hop : ∀ x y : Nat, y < 2 ^ 40 → x <<< 40 ||| y = x * 2 ^ 40 + y := by
    intro x y h; rw [← Nat.shiftLeft_add_eq_or_of_lt h, Nat.shiftLeft_eq]
  have := r.status.code.isLt; have := r.value.isLt
  simp only [Response.word, BitVec.toNat_cast, BitVec.toNat_append]
  rw [hstatus _ _ r.value.isLt, hop _ _ (by omega)]
  omega

/-- No status has a code above that of IllegalCommand (R101). -/
theorem Status.code_le (st : Status) : st.code.toNat ≤ 6 := by
  cases st with
  | ok => decide
  | error e => cases e <;> decide

/-- Settles O5: the three fields are read off the word as a number. -/
theorem responseWordFields : Obligations.ResponseWordFields := by
  unfold Obligations.ResponseWordFields
  refine ⟨fun r => ?_, rfl, rfl, rfl, rfl, rfl, rfl, rfl, Status.code_le⟩
  have hword := r.word_toNat
  have := r.op.isLt; have := r.status.code.isLt; have := r.value.isLt
  refine ⟨?_, ?_, ?_⟩ <;>
  · apply BitVec.eq_of_toNat_eq
    rw [BitVec.extractLsb'_toNat, Nat.shiftRight_eq_div_pow, hword]
    omega

/-! ### A legal word at the command port -/

/-- The guard executes a legal word that is not a withdrawn CFG command (R240, R244). -/
theorem step_of_legal {s : State} {w : CommandWord} {withdrawn : Bool} {i : Instr}
    (hin : s.nextInput = .command w withdrawn) (h : decode w = .ok i) (hk : withdrawn = false ∨ classOf i ≠ .cfg) :
    step s = exec i s.inputTaken := by
  have granted : ¬ (withdrawn = true ∧ classOf i = .cfg) := by
    rcases hk with rfl | hk
    · simp
    · exact fun hw => hk hw.2
  rw [step, hin, transition, present, h]
  exact if_neg granted

/-- Settles O7: a word that decodes is well-formed by O2, and the guard adds nothing around `exec`. -/
theorem stepRunsTheDecodedCommand : Obligations.StepRunsTheDecodedCommand := by
  unfold Obligations.StepRunsTheDecodedCommand
  intro s w withdrawn i hin h hk
  exact ⟨(wellFormed_and_operands_of_decode h).1, step_of_legal hin h hk⟩

end Sys2Proof.Machine
end

section
/-! The ranges of the reload value and of the match value (spec/40_timer_register_model.md R122 to R127), and the control
word's layout (spec/10_state.md R31). -/

namespace Sys2Proof.Machine

/-! ### The reload value -/

theorem numCounts_eq (reload : Int) : numCounts reload = 0xFFFFFFFE - reload := rfl

theorem computeReload_eq (f inputFreq : Int) : computeReload f inputFreq = 0xFFFFFFFF - (inputFreq / f - 1) := rfl

/-- An integer that fits a u32 is not changed by narrowing it (R12). -/
theorem zext32_asU32 {v : Int} (h0 : 0 ≤ v) (h1 : v < 2 ^ 32) : zext32 (asU32 v) = v := by
  rw [zext32, asU32, BitVec.toNat_ofInt]
  omega

/-- The quotient of R122 for a frequency from 2 to half of the input's. -/
theorem reloadQuotient_range {f inp : Int} (hf : 2 ≤ f) (hcap : f ≤ inp / 2) : 2 ≤ inp / f ∧ inp / f ≤ inp / 2 :=
  have hmul := Int.mul_le_mul_of_nonneg_left hf (by omega : 0 ≤ inp / 2 + 1)
  have hlt : inp / f < inp / 2 + 1 := Int.ediv_lt_of_lt_mul (by omega) (by omega)
  ⟨Int.le_ediv_of_mul_le (by omega) (by omega), by omega⟩

/-- The quotient is the least it can be, and num_counts is 0, exactly for a frequency above a third of the input's. -/
theorem reloadQuotient_eq_two_iff {f inp : Int} (hf : 2 ≤ f) (hcap : f ≤ inp / 2) : inp / f = 2 ↔ inp / 3 < f := by
  obtain ⟨hlow, -⟩ := reloadQuotient_range hf hcap
  have below : inp / f < 3 ↔ inp < 3 * f := Int.ediv_lt_iff_lt_mul (by omega)
  omega

/-- Settles O10: the reload value and num_counts are linear in the quotient, whose range bounds them. -/
theorem reloadAndCountsRange : Obligations.ReloadAndCountsRange := by
  unfold Obligations.ReloadAndCountsRange
  refine ⟨numCounts_eq, ?_, by decide⟩
  intro f inp hmin hmax hf hcap q r
  obtain ⟨hlow, hhigh⟩ : 2 ≤ q ∧ q ≤ inp / 2 := reloadQuotient_range hf hcap
  have htwo : q = 2 ↔ inp / 3 < f := reloadQuotient_eq_two_iff hf hcap
  have hr : r = 0xFFFFFFFF - (q - 1) := computeReload_eq f inp
  have hn : numCounts r = 0xFFFFFFFE - r := numCounts_eq r
  exact ⟨hlow, hhigh, by omega, by omega, by omega, zext32_asU32 (by omega) (by omega), by omega, htwo, by omega,
    by omega, by omega⟩

/-- Settles O16: the formula is R122's own, and the example is evaluated. -/
theorem sourceExampleValues : Obligations.SourceExampleValues := by
  unfold Obligations.SourceExampleValues
  exact ⟨fun f inp _ _ _ => computeReload_eq f inp, by decide, by decide, by decide⟩

/-! ### The match value -/

theorem clamp_eq {x lo hi : Int} (h : lo ≤ hi) : clamp x lo hi = max lo (min x hi) := by
  unfold clamp
  split
  · omega
  · split <;> omega

theorem computeMatch_zero (reload n : Int) : computeMatch 0 reload n = none := rfl

theorem computeMatch_nonzero {p : Int} (hp : p ≠ 0) (reload n : Int) :
    computeMatch p reload n = some (reload + clamp (p * n / 100) 1 n) := by
  simp [computeMatch, hp]

/-- At most 100 percent of `n` counts are at most `n`. -/
theorem percent_le {p n : Int} (hp : p ≤ 100) (hn : 0 ≤ n) : p * n / 100 ≤ n := by
  have := Int.mul_le_mul_of_nonneg_right hp hn
  omega

/-- The offset of a match value lies inside the period (R127). -/
theorem matchOffset_range {n : Int} (p : Int) (hn : 1 ≤ n) : 1 ≤ clamp (p * n / 100) 1 n ∧ clamp (p * n / 100) 1 n ≤ n := by
  rw [clamp_eq hn]
  omega

/-- The lower arm of the offset's clamp. -/
theorem matchOffset_eq {p n : Int} (hp : p ≤ 100) (hn : 1 ≤ n) :
    clamp (p * n / 100) 1 n = if p * n < 100 then 1 else p * n / 100 := by
  have := percent_le hp (by omega : 0 ≤ n)
  rw [clamp_eq hn]
  split <;> omega

/-- Settles O11: the offset is clamped to the period, and the period ends below MAXU32. -/
theorem matchLiesInsideThePeriod : Obligations.MatchLiesInsideThePeriod := by
  unfold Obligations.MatchLiesInsideThePeriod
  refine ⟨fun x lo hi => clamp_eq, computeMatch_zero, ?_, ?_⟩
  · intro p reload n hp hp' hn
    exact ⟨computeMatch_nonzero (by omega) reload n, matchOffset_eq hp' hn, percent_le hp' (by omega), by omega⟩
  · intro p reload hp hp' hr hn
    obtain ⟨hlow, hhigh⟩ := matchOffset_range p hn
    have hcounts := numCounts_eq reload
    exact ⟨_, computeMatch_nonzero (by omega) _ _, by omega, by omega, by omega, zext32_asU32 (by omega) (by omega)⟩

/-! ### The control word -/

/-- One flag, moved to its place. -/
theorem ofBool_shiftLeft_getLsbD (b : Bool) {n : Nat} (hn : n < 32) (k : Nat) :
    ((BitVec.ofBool b).setWidth 32 <<< n).getLsbD k = (decide (k = n) && b) := by
  rw [BitVec.getLsbD_shiftLeft, BitVec.getLsbD_setWidth, BitVec.getLsbD_ofBool]
  rcases Nat.lt_trichotomy k n with hk | rfl | hk
  · simp [hk, hk.ne]
  · simp [hn]
  · simp [hk.ne', Nat.sub_ne_zero_of_lt hk]

/-- The ratio, moved to its place. -/
theorem ratio_shiftLeft_getLsbD (r : BitVec 3) (k : Nat) :
    (r.setWidth 32 <<< 2).getLsbD k = (decide (2 ≤ k) && r.getLsbD (k - 2)) := by
  rw [BitVec.getLsbD_shiftLeft, BitVec.getLsbD_setWidth]
  by_cases hk : k < 5
  · have h32 : k < 32 := by omega
    have h34 : k - 2 < 32 := by omega
    rcases Nat.lt_or_ge k 2 with h2 | h2
    · simp [h2, Nat.not_le.mpr h2]
    · simp [h2, Nat.not_lt.mpr h2, h32, h34]
  · have h3 : r.getLsbD (k - 2) = false := BitVec.getLsbD_of_ge r (k - 2) (by omega)
    simp [h3]

/-- Bit `k` of the control word (R31). -/
theorem ctrlWord_getLsbD (f : Flags) (k : Nat) : (ctrlWord f).getLsbD k =
    (decide (k = 0) && f.started || decide (k = 1) && f.autoreload || decide (2 ≤ k) && f.prescaleRatio.getLsbD (k - 2)
      || decide (k = 5) && f.prescaleEnable || decide (k = 7) && f.polarity) := by
  have started := ofBool_shiftLeft_getLsbD f.started (n := 0) (by decide) k
  rw [BitVec.shiftLeft_zero] at started
  simp only [ctrlWord, BitVec.getLsbD_or, started, ofBool_shiftLeft_getLsbD _ (n := 1) (by decide),
    ofBool_shiftLeft_getLsbD _ (n := 5) (by decide), ofBool_shiftLeft_getLsbD _ (n := 7) (by decide),
    ratio_shiftLeft_getLsbD]

theorem ctrlWord_getLsbD_of_eight_le (f : Flags) {k : Nat} (hk : 8 ≤ k) : (ctrlWord f).getLsbD k = false := by
  have h0 : k ≠ 0 := by omega
  have h1 : k ≠ 1 := by omega
  have h5 : k ≠ 5 := by omega
  have h7 : k ≠ 7 := by omega
  have ratio : f.prescaleRatio.getLsbD (k - 2) = false := BitVec.getLsbD_of_ge _ _ (by omega)
  simp [ctrlWord_getLsbD, h0, h1, h5, h7, ratio]

/-- Settles O15: every field is read off bit by bit. -/
theorem controlWordLayout : Obligations.ControlWordLayout := by
  unfold Obligations.ControlWordLayout
  refine ⟨fun f => ?_, by decide, by decide, by decide⟩
  refine ⟨?_, ?_, ?_, ?_, ?_, ?_, ?_⟩
  · rw [ctrlWord_getLsbD]; simp
  · rw [ctrlWord_getLsbD]; simp
  · apply BitVec.eq_of_getLsbD_eq
    intro k hk
    have h1 : 2 + k ≠ 1 := by omega
    have h5 : 2 + k ≠ 5 := by omega
    have h7 : 2 + k ≠ 7 := by omega
    simp [ctrlWord_getLsbD, hk, h1, h5, h7]
  · rw [ctrlWord_getLsbD]; simp [BitVec.getLsbD_of_ge]
  · rw [ctrlWord_getLsbD]; simp [BitVec.getLsbD_of_ge]
  · rw [ctrlWord_getLsbD]; simp [BitVec.getLsbD_of_ge]
  · apply BitVec.eq_of_getLsbD_eq
    intro k hk
    simp [ctrlWord_getLsbD_of_eight_le f (Nat.le_add_right 8 k)]

/-- The bits of the control word that no flag has: 6 and 31 to 8 (R31). -/
theorem ctrlWord_and_unused (f : Flags) : ctrlWord f &&& 0xFFFFFF40 = 0 := by
  have unused : ∀ k < 32, (0xFFFFFF40 : Word).getLsbD k = true → k = 6 ∨ 8 ≤ k := by decide
  apply BitVec.eq_of_getLsbD_eq
  intro k hk
  rw [BitVec.getLsbD_and]
  cases hbit : (0xFFFFFF40 : Word).getLsbD k with
  | false => simp
  | true =>
    rcases unused k hk hbit with rfl | h8
    · rw [ctrlWord_getLsbD]; simp [BitVec.getLsbD_of_ge]
    · rw [ctrlWord_getLsbD_of_eight_le f h8]; simp

end Sys2Proof.Machine
end

section
/-! The sample memory under a host write (spec/20_memory.md R70), the addresses of the timer registers (R61), and the
functions of 16 bits that MUXFN can be (spec/00_scope.md R11). -/

namespace Sys2Proof.Machine

/-- Settles O45: the memory is the one `Memory.write` gives, of which Laws.Memory says the rest. -/
theorem hostStoreChangesOneByte : Obligations.HostStoreChangesOneByte := by
  unfold Obligations.HostStoreChangesOneByte
  intro s a b hwf hin
  refine ⟨s.mem.write a.toNat b, ?_, Memory.write_wf _ _ _ hwf a.isLt, Memory.read_write_same _ _ _ hwf,
    fun x hx => Memory.read_write_other _ _ _ _ hwf hx⟩
  rw [step, hin]
  rfl

/-! ### The timer registers -/

theorem regOffset_lt {p : Config.Platform} (hp : p.Valid) (r : TimerReg) : regOffset p r < p.pageSize := by
  cases r
  · exact hp.ctrl_inside
  · exact hp.counter_inside
  · exact hp.reload_inside
  · exact hp.match_inside

theorem regOffset_aligned {p : Config.Platform} (hp : p.Valid) (r : TimerReg) : regOffset p r % 4 = 0 := by
  cases r
  · exact hp.ctrl_aligned
  · exact hp.counter_aligned
  · exact hp.reload_aligned
  · exact hp.match_aligned

theorem regOffset_injective {p : Config.Platform} (hp : p.Valid) {r r' : TimerReg}
    (h : regOffset p r = regOffset p r') : r = r' := by
  have distinct := hp.offsets_distinct
  cases r <;> cases r' <;> simp_all [regOffset]

/-- A page is a power of two and at least 16, so it begins at a multiple of 4. -/
theorem regBase_aligned {p : Config.Platform} (hp : p.Valid) : p.regBase.toNat % 4 = 0 := by
  obtain ⟨k, -, hk⟩ := hp.page_power
  have hpage := hp.page_min
  have four : 4 ∣ p.pageSize := by
    rw [hk] at hpage ⊢
    have hle : 2 ^ 2 ≤ 2 ^ k := by omega
    exact Nat.pow_dvd_pow 2 ((Nat.pow_le_pow_iff_right (by decide)).mp hle)
  exact Nat.mod_eq_zero_of_dvd (four.trans (Nat.dvd_of_mod_eq_zero hp.base_aligned))

/-- The address of a timer register does not wrap (R61). -/
theorem regAddr_toNat {p : Config.Platform} (hp : p.Valid) (r : TimerReg) :
    (regAddr p r).toNat = p.regBase.toNat + regOffset p r := by
  have hin := regOffset_lt hp r
  have hfits := hp.base_fits
  rw [regAddr, BitVec.toNat_add, BitVec.toNat_ofNat]
  omega

/-- Settles O54: the addresses are the base, which the page aligns, plus offsets inside the page. -/
theorem timerAddressesLieInThePage : Obligations.TimerAddressesLieInThePage := by
  unfold Obligations.TimerAddressesLieInThePage
  refine ⟨fun p => ⟨rfl, rfl, rfl, rfl⟩, fun p hp => ⟨fun r => ?_, fun r r' h => ?_⟩⟩
  · have haddr := regAddr_toNat hp r
    have hin := regOffset_lt hp r
    have haligned := regOffset_aligned hp r
    have hbase := regBase_aligned hp
    exact ⟨haddr, by omega, by omega, by omega⟩
  · have haddr := congrArg BitVec.toNat h
    rw [regAddr_toNat hp, regAddr_toNat hp] at haddr
    exact regOffset_injective hp (by omega)

end Sys2Proof.Machine
end

section
/-! Every operation of the controller in one form, a plan: enable_mux where the operation runs it (R152), a list of
writes, and one commit block (R13, R15). A plan either completes or stops at the first access that fails. -/

namespace Sys2Proof.Machine

/-! ### Results -/

theorem Result.andThen_assoc {α β γ : Type} (r : Result α) (f : α → State → Result β) (g : β → State → Result γ) :
    (r.andThen f).andThen g = r.andThen fun v t => (f v t).andThen g := by
  cases r <;> rfl

/-- What follows an operation matters only in the states that the operation can leave. -/
theorem Result.andThen_congr {α β : Type} {r : Result α} {f g : α → State → Result β}
    (h : ∀ v t, r = .ok v t → f v t = g v t) : r.andThen f = r.andThen g := by
  cases r with
  | ok v t => exact h v t rfl
  | raised e t => rfl

/-! ### Answers -/

/-- The environment accepts the next `n` accesses, or there is a first one that it fails. -/
theorem State.accepts_or_failed (s : State) (n : Nat) :
    s.accepts n ∨ ∃ k < n, s.accepts k ∧ s.answer k = .failed := by
  induction n with
  | zero => exact .inl fun k hk => absurd hk (Nat.not_lt_zero k)
  | succ n ih =>
    rcases ih with ha | ⟨k, hk, hfirst⟩
    · cases hn : s.answer n with
      | done d => exact .inl (State.accepts_succ ha hn)
      | failed => exact .inr ⟨n, n.lt_succ_self, ha, hn⟩
    · exact .inr ⟨k, Nat.lt_succ_of_lt hk, hfirst⟩

/-- An access that fails is not among accepted ones. -/
theorem State.not_accepts {s : State} {k n : Nat} (hk : k < n) (hf : s.answer k = .failed) : ¬ s.accepts n := by
  intro ha
  have := ha k hk
  simp [hf, succeeded] at this

/-! ### Lists of writes -/

/-- One write of an operation, to a timer register or to the multiplexer. -/
inductive Access where
  | timer (r : TimerReg) (v : Word)
  | mux (v : Half)

def Access.run : Access → State → Result Unit
  | .timer r v => regWrite r v
  | .mux v => muxWrite v

/-- The event of an access that succeeded, or failed (R82). -/
def Access.event (p : Config.Platform) (success : Bool) : Access → Event
  | .timer r v => .write32 (regAddr p r) v success
  | .mux v => .write16 p.muxOff v success

@[simp] theorem Access.event_failed (p : Config.Platform) (success : Bool) (a : Access) :
    (a.event p success).failed = !success := by
  cases a <;> rfl

@[simp] theorem Access.event_isResponse (p : Config.Platform) (success : Bool) (a : Access) :
    (a.event p success).isResponse = false := by
  cases a <;> rfl

theorem Access.run_done {s : State} {d : Half} (a : Access) (h : s.answer 0 = .done d) :
    a.run s = .ok () (s.issued [a.event s.platform true]) := by
  cases a with
  | timer r v => exact regWrite_done h
  | mux v => exact muxWrite_done h

theorem Access.run_failed {s : State} (a : Access) (h : s.answer 0 = .failed) :
    a.run s = .raised .ioError (s.issued [a.event s.platform false]) := by
  cases a with
  | timer r v => exact regWrite_failed h
  | mux v => exact muxWrite_failed h

def runAccesses : List Access → State → Result Unit
  | [], s => .ok () s
  | a :: as, s => (a.run s).andThen fun _ t => runAccesses as t

/-- Writes that are all accepted, after accesses with the events `es`. -/
theorem runAccesses_accepted {s : State} (f : Regs → Regs) (as : List Access) (es : List Event)
    (h : s.accepts (es.length + as.length)) :
    runAccesses as ((s.issued es).commit f) =
      .ok () ((s.issued (es ++ as.map (Access.event s.platform true))).commit f) := by
  induction as generalizing es with
  | nil => simp [runAccesses]
  | cons a as ih =>
    obtain ⟨d, hd⟩ := State.accepts_done h (k := es.length) (by simp)
    have first := a.run_done (s := (s.issued es).commit f) (d := d) (by simpa using hd)
    have rest := ih (es ++ [a.event s.platform true]) (by simpa [Nat.add_assoc, Nat.add_comm 1] using h)
    simpa [runAccesses, first] using rest

/-- Writes of which the one after `before` fails, after accesses with the events `es`. -/
theorem runAccesses_rejected {s : State} (f : Regs → Regs) (before : List Access) (a : Access) (left : List Access)
    (es : List Event) (h : s.accepts (es.length + before.length)) (hf : s.answer (es.length + before.length) = .failed) :
    runAccesses (before ++ a :: left) ((s.issued es).commit f) = .raised .ioError
      ((s.issued (es ++ before.map (Access.event s.platform true) ++ [a.event s.platform false])).commit f) := by
  induction before generalizing es with
  | nil =>
    have first := a.run_failed (s := (s.issued es).commit f) (by simpa using hf)
    simp [runAccesses, first]
  | cons b before ih =>
    obtain ⟨d, hd⟩ := State.accepts_done h (k := es.length) (by simp)
    have first := b.run_done (s := (s.issued es).commit f) (d := d) (by simpa using hd)
    have rest := ih (es ++ [b.event s.platform true]) (by simpa [Nat.add_assoc, Nat.add_comm 1] using h)
      (by simpa [Nat.add_assoc, Nat.add_comm 1] using hf)
    simpa [runAccesses, first] using rest

/-! ### Plans -/

/-- What an operation does once its preconditions hold. -/
structure Plan where
  /-- The operation runs enable_mux first. -/
  usesMux : Bool
  /-- Its writes, in order. -/
  accesses : List Access
  /-- Its commit block. -/
  commit : Regs → Regs

def Plan.run (p : Plan) (s : State) : Result Unit :=
  (if p.usesMux then enableMux s else .ok () s).andThen fun _ t =>
  (runAccesses p.accesses t).andThen fun _ u =>
  .ok () (u.commit p.commit)

/-- How many accesses precede the plan's own writes. -/
def Plan.muxAnswers (p : Plan) (s : State) : Nat := if p.usesMux then Machine.muxAnswers s else 0

/-- The events that precede those of the plan's own writes. -/
def Plan.muxEvents (p : Plan) (s : State) : List Event := if p.usesMux then Machine.muxEvents s else []

/-- The registers that the plan's commit block finds. -/
def Plan.muxRegs (p : Plan) (s : State) : Regs := if p.usesMux then Machine.muxRegs s else s.regs

/-- How many accesses a plan makes that completes. -/
def Plan.answers (p : Plan) (s : State) : Nat := p.muxAnswers s + p.accesses.length

/-- The events of a plan that completes. -/
def Plan.events (p : Plan) (s : State) : List Event :=
  p.muxEvents s ++ p.accesses.map (Access.event s.platform true)

/-- The registers that a plan leaves that completes. -/
def Plan.regs (p : Plan) (s : State) : Regs := p.commit (p.muxRegs s)

/-- The events and the registers of a plan that stops at an access that fails: enable_mux's read, enable_mux's write, or
one of its own writes. -/
inductive Plan.Stops (p : Plan) (s : State) : List Event → Regs → Prop where
  | muxRead (hp : p.usesMux = true) (hm : s.regs.muxSaved = false) (hf : s.answer 0 = .failed) :
      p.Stops s [.read16 s.platform.muxOff none] s.regs
  | muxWrite (hp : p.usesMux = true) (hm : s.regs.muxSaved = false) (v : Half) (hd : s.answer 0 = .done v)
      (hf : s.answer 1 = .failed) :
      p.Stops s [.read16 s.platform.muxOff (some v),
        .write16 s.platform.muxOff (muxValue s.platform.muxFn v) false] s.regs
  | access (before : List Access) (a : Access) (left : List Access) (hl : p.accesses = before ++ a :: left)
      (ha : s.accepts (p.muxAnswers s + before.length)) (hf : s.answer (p.muxAnswers s + before.length) = .failed) :
      p.Stops s (p.muxEvents s ++ (before.map (Access.event s.platform true) ++ [a.event s.platform false]))
        (p.muxRegs s)

/-- The part before a plan's own writes, where its accesses are accepted. -/
theorem Plan.mux_accepts (p : Plan) {s : State} (h : s.accepts (p.muxAnswers s)) :
    (p.muxEvents s).length = p.muxAnswers s ∧ (if p.usesMux then enableMux s else .ok () s) =
      .ok () ((s.issued (p.muxEvents s)).commit fun _ => p.muxRegs s) := by
  unfold Plan.muxAnswers at h
  unfold Plan.muxAnswers Plan.muxEvents Plan.muxRegs
  cases hm : p.usesMux with
  | true => simpa using enableMux_accepts (by simpa [hm] using h)
  | false => simp [State.commit]

/-- A plan whose accesses are all accepted completes. -/
theorem Plan.run_accepts {p : Plan} {s : State} (h : s.accepts (p.answers s)) :
    p.run s = .ok () ((s.issued (p.events s)).commit fun _ => p.regs s) := by
  obtain ⟨hl, hmux⟩ := p.mux_accepts (State.accepts_mono h (Nat.le_add_right _ _))
  have hwrites := runAccesses_accepted (s := s) (fun _ => p.muxRegs s) p.accesses (p.muxEvents s) (by rwa [hl])
  simp [Plan.run, hmux, hwrites, Plan.events, Plan.regs]

theorem Plan.events_length {p : Plan} {s : State} (h : s.accepts (p.answers s)) :
    (p.events s).length = p.answers s := by
  obtain ⟨hl, -⟩ := p.mux_accepts (State.accepts_mono h (Nat.le_add_right _ _))
  simp [Plan.events, Plan.answers, hl]

/-- A plan that stops raises IOError and skips its commit block. -/
theorem Plan.run_stops {p : Plan} {s : State} {es : List Event} {r : Regs} (h : p.Stops s es r) :
    p.run s = .raised .ioError ((s.issued es).commit fun _ => r) := by
  cases h with
  | muxRead hp hm hf => simp only [Plan.run, hp, if_true, enableMux_read_rejected hm hf]; rfl
  | muxWrite hp hm v hd hf => simp only [Plan.run, hp, if_true, enableMux_write_rejected hm hd hf]; rfl
  | access before a left hl ha hf =>
    obtain ⟨hlen, hmux⟩ := p.mux_accepts (State.accepts_mono ha (Nat.le_add_right _ _))
    have hwrites := runAccesses_rejected (s := s) (fun _ => p.muxRegs s) before a left (p.muxEvents s)
      (by rwa [hlen]) (by rwa [hlen])
    simp [Plan.run, hmux, hl, hwrites]

/-- A plan stops at the first of its accesses that fails. -/
theorem Plan.stops_of_failed {p : Plan} {s : State} {k : Nat} (hk : k < p.answers s) (ha : s.accepts k)
    (hf : s.answer k = .failed) : ∃ es r, p.Stops s es r := by
  by_cases hlead : k < p.muxAnswers s
  · have hp : p.usesMux = true := by
      by_contra hp
      simp [Plan.muxAnswers, hp] at hlead
    have hm : s.regs.muxSaved = false := by
      by_contra hm
      simp [Plan.muxAnswers, Machine.muxAnswers, Bool.of_not_eq_false hm] at hlead
    have htwo : k < 2 := by simpa [Plan.muxAnswers, Machine.muxAnswers, hp, hm] using hlead
    obtain rfl | rfl : k = 0 ∨ k = 1 := by omega
    · exact ⟨_, _, .muxRead hp hm hf⟩
    · obtain ⟨v, hd⟩ := State.accepts_done ha Nat.zero_lt_one
      exact ⟨_, _, .muxWrite hp hm v hd hf⟩
  · obtain ⟨j, rfl⟩ := Nat.exists_eq_add_of_le (Nat.le_of_not_lt hlead)
    have hj : j < p.accesses.length := by unfold Plan.answers at hk; omega
    have hlen : (p.accesses.take j).length = j := List.length_take_of_le hj.le
    refine ⟨_, _, .access (p.accesses.take j) p.accesses[j] (p.accesses.drop (j + 1)) ?_ ?_ ?_⟩
    · rw [← List.drop_eq_getElem_cons hj, List.take_append_drop]
    · rwa [hlen]
    · rwa [hlen]

/-- A plan completes or stops. -/
theorem Plan.accepts_or_stops (p : Plan) (s : State) : s.accepts (p.answers s) ∨ ∃ es r, p.Stops s es r := by
  rcases s.accepts_or_failed (p.answers s) with h | ⟨k, hk, ha, hf⟩
  · exact .inl h
  · exact .inr (Plan.stops_of_failed hk ha hf)

/-! ### What a plan leaves that stops -/

/-- The registers that enable_mux leaves: as they were, or with the value read saved. -/
theorem Plan.muxRegs_cases (p : Plan) (s : State) : p.muxRegs s = s.regs ∨
    ∃ v, s.regs.muxSaved = false ∧ s.answer 0 = .done v ∧ p.muxRegs s = s.regs.saveMux v := by
  unfold Plan.muxRegs Machine.muxRegs
  split
  · split
    · exact .inl rfl
    · split
      · next v hd => exact .inr ⟨v, by simp_all, hd, rfl⟩
      · exact .inl rfl
  · exact .inl rfl

/-- A stopped plan commits nothing but enable_mux's save. -/
theorem Plan.Stops.regs {p : Plan} {s : State} {es : List Event} {r : Regs} (h : p.Stops s es r) :
    r = s.regs ∨ ∃ v, s.regs.muxSaved = false ∧ s.answer 0 = .done v ∧ r = s.regs.saveMux v := by
  cases h with
  | muxRead => exact .inl rfl
  | muxWrite => exact .inl rfl
  | access => exact p.muxRegs_cases s

/-- enable_mux's events are successes, and none is a response. -/
theorem Plan.muxEvents_succeeded (p : Plan) (s : State) :
    ∀ e ∈ p.muxEvents s, e.failed = false ∧ e.isResponse = false := by
  unfold Plan.muxEvents Machine.muxEvents
  split
  · split
    · simp
    · split <;> simp [Event.failed, Event.isResponse]
  · simp

/-- The accesses of a stopped plan are successes up to the one that failed, which is the last. -/
theorem Plan.Stops.events {p : Plan} {s : State} {es : List Event} {r : Regs} (h : p.Stops s es r) :
    ∃ before x, es = before ++ [x] ∧ x.failed = true ∧ ∀ y ∈ before, y.failed = false := by
  cases h with
  | muxRead => exact ⟨[], _, rfl, rfl, by simp⟩
  | muxWrite hp hm v => exact ⟨[_], _, rfl, rfl, by simp [Event.failed]⟩
  | access before a left =>
    refine ⟨_, _, (List.append_assoc _ _ _).symm, by simp, fun y hy => ?_⟩
    rcases List.mem_append.mp hy with hy | hy
    · exact (p.muxEvents_succeeded s y hy).1
    · obtain ⟨b, -, rfl⟩ := List.mem_map.mp hy
      simp

/-- A plan's events hold no response. -/
theorem Plan.events_no_response (p : Plan) (s : State) : ∀ e ∈ p.events s, e.isResponse = false := by
  intro e he
  rcases List.mem_append.mp he with he | he
  · exact (p.muxEvents_succeeded s e he).2
  · obtain ⟨b, -, rfl⟩ := List.mem_map.mp he
    simp

/-- A stopped plan's events hold no response. -/
theorem Plan.Stops.events_no_response {p : Plan} {s : State} {es : List Event} {r : Regs} (h : p.Stops s es r) :
    ∀ e ∈ es, e.isResponse = false := by
  cases h with
  | muxRead => simp [Event.isResponse]
  | muxWrite => simp [Event.isResponse]
  | access before a left =>
    intro e he
    simp only [List.mem_append, List.mem_map, List.mem_singleton] at he
    rcases he with he | ⟨b, -, rfl⟩ | rfl
    · exact (p.muxEvents_succeeded s e he).2
    · simp
    · simp

end Sys2Proof.Machine
end

section
/-! The thirteen commands as plans: which plan a command runs once its preconditions hold (R266), and everything `exec`
can do, said once for all of them. -/

namespace Sys2Proof.Machine

/-! ### The shared operations as plans -/

/-- The plan of an operation that writes the control word and the flags only (R154, R163, R165). -/
def flagsPlan (f : Flags) : Plan := ⟨true, [.timer .ctrl (ctrlWord f)], Regs.setFlags f⟩

/-- The plan of op_configure_frequency for the clamped frequency `f` (R155). -/
def frequencyPlan (s : State) (f : Int) : Plan :=
  let r := asU32 (computeReload f s.platform.inputFreq)
  ⟨true, [.timer .reload r, .timer .counter r], Regs.commitFrequency r (asU32 f)⟩

/-- The plan of op_set_duty_cycle (R157). -/
def dutyPlan (s : State) (p : Int) : Plan :=
  match computeMatch p (zext32 s.regs.reloadValue) (numCounts (zext32 s.regs.reloadValue)) with
  | none => flagsPlan s.regs.flags.stop
  | some m => ⟨true, [.timer .ctrl (ctrlWord s.regs.flags.stop), .timer .matchReg (asU32 m),
      .timer .ctrl (ctrlWord s.regs.flags.start)], Regs.commitDuty (asU32 m)⟩

/-- The plan of ON (R159). -/
def onPlan (s : State) : Plan :=
  ⟨true, [.timer .matchReg s.regs.matchValue, .timer .ctrl (ctrlWord s.regs.flags.start)],
    Regs.setFlags s.regs.flags.start⟩

/-- The plan that does nothing. -/
def idlePlan : Plan := ⟨false, [], id⟩

/-- The plan of PBSTOP and PBSYNC (R203). -/
def stopPlan (s : State) : Plan :=
  if s.regs.active then ⟨true, [.timer .ctrl (ctrlWord s.regs.flags.stop)],
    fun r => (r.setFlags s.regs.flags.stop).clearActive⟩
  else idlePlan

/-- DETACH's stop of a running signal (R170). -/
def stopAccesses (s : State) : List Access :=
  if s.regs.flags.started then [.timer .ctrl (ctrlWord s.regs.flags.stop)] else []

/-- DETACH's restore of a saved mux value (R170). -/
def restoreAccesses (s : State) : List Access := if s.regs.muxSaved then [.mux s.regs.savedMux] else []

/-- The plan of DETACH (R170). -/
def detachPlan (s : State) : Plan := ⟨false, stopAccesses s ++ restoreAccesses s, Regs.commitDetach⟩

theorem enableMux_ok_regs {s t : State} (h : enableMux s = .ok () t) : t.regs = muxRegs s := by
  rcases enableMux_outcome s with ⟨u, -, -, -, hu, -, he⟩ | ⟨u, -, -, -, -, he⟩
  · rw [he] at h
    obtain ⟨-, rfl⟩ := Result.ok.inj h
    exact hu
  · rw [he] at h
    cases h

theorem regWrite_ok_regs {r : TimerReg} {v : Word} {s t : State} (h : regWrite r v s = .ok () t) :
    t.regs = s.regs := by
  rcases regWrite_cases r v s with ⟨-, hw⟩ | ⟨-, hw⟩
  · rw [hw] at h
    obtain ⟨-, rfl⟩ := Result.ok.inj h
    rfl
  · rw [hw] at h
    cases h

theorem opWriteFlags_eq_run (f : Flags) (s : State) : opWriteFlags f s = (flagsPlan f).run s := by
  simp [opWriteFlags, Plan.run, flagsPlan, runAccesses, Access.run, Result.andThen_assoc]

theorem opTurnOff_eq_run (s : State) : opTurnOff s = (flagsPlan s.regs.flags.stop).run s :=
  opWriteFlags_eq_run _ s

theorem opConfigureFrequency_eq_run {req : Int} {s : State} (hf : clampFreq s.platform req ≠ 0) :
    opConfigureFrequency req s = (frequencyPlan s (clampFreq s.platform req)).run s := by
  simp [opConfigureFrequency, Plan.run, frequencyPlan, runAccesses, Access.run, Result.andThen_assoc, hf]

/-- op_set_duty_cycle where its preconditions hold: the flags written are those it finds, because no access changes
them. -/
theorem opSetDutyCycle_eq_run {p : Int} {s : State} (h0 : 0 ≤ p) (h100 : p ≤ 100)
    (hc : p ≠ 0 → s.regs.configured = true) (hn : p ≠ 0 → numCounts (zext32 s.regs.reloadValue) ≠ 0) :
    opSetDutyCycle p s = (dutyPlan s p).run s := by
  by_cases hp : p = 0
  · subst hp
    rw [opSetDutyCycle_zero, opTurnOff_eq_run]
    rfl
  have hm := computeMatch_nonzero hp (zext32 s.regs.reloadValue) (numCounts (zext32 s.regs.reloadValue))
  simp only [opSetDutyCycle, dutyPlan, hm, h0, h100, hc hp, decide_true, Bool.and_self, Bool.or_true, hn hp,
    require_true, Result.andThen_ok, Plan.run, if_true, runAccesses, Access.run, Result.andThen_assoc, ne_eq,
    not_false_eq_true]
  refine Result.andThen_congr fun _ t ht => ?_
  have hflags : t.regs.flags = s.regs.flags := by rw [enableMux_ok_regs ht, muxRegs_flags]
  rw [hflags]
  refine Result.andThen_congr fun _ u hu => Result.andThen_congr fun _ w hw => ?_
  rw [regWrite_ok_regs hw, regWrite_ok_regs hu, hflags]

theorem bodyOn_eq_run {s : State} (hc : s.regs.configured = true) (hm : s.regs.matchOk = true) :
    bodyOn s = (onPlan s).run s := by
  simp only [bodyOn, hc, hm, require_true, Result.andThen_ok, onPlan, Plan.run, if_true, runAccesses, Access.run,
    Result.andThen_assoc]
  refine Result.andThen_congr fun _ t ht => ?_
  rw [enableMux_ok_regs ht, muxRegs_matchValue]
  refine Result.andThen_congr fun _ u hu => ?_
  have hflags : u.regs.flags = s.regs.flags := by rw [regWrite_ok_regs hu, enableMux_ok_regs ht, muxRegs_flags]
  rw [hflags]
  refine Result.andThen_congr fun _ w hw => ?_
  rw [regWrite_ok_regs hw, hflags]

theorem bodyStop_eq_run (s : State) : bodyStop s = (stopPlan s).run s := by
  cases ha : s.regs.active with
  | false => simp [bodyStop, stopPlan, ha, idlePlan, Plan.run, runAccesses, State.commit]
  | true =>
    simp [bodyStop, stopPlan, ha, opTurnOff, opWriteFlags, Plan.run, runAccesses, Access.run, Result.andThen_assoc]

theorem bodyDetach_eq_run {s : State} (hb : s.regs.busy = false) : bodyDetach s = (detachPlan s).run s := by
  simp only [bodyDetach, hb, Bool.not_false, require_true, Result.andThen_ok, detachPlan, Plan.run, stopAccesses,
    restoreAccesses]
  cases hs : s.regs.flags.started with
  | false =>
    cases hm : s.regs.muxSaved <;> simp [hm, runAccesses, Access.run, Result.andThen_assoc]
  | true =>
    simp only [if_true, List.singleton_append, runAccesses, Access.run, Result.andThen_assoc]
    refine Result.andThen_congr fun _ t ht => ?_
    rw [regWrite_ok_regs ht]
    cases hm : s.regs.muxSaved <;> simp [runAccesses, Access.run, Result.andThen_assoc]

/-! ### Preconditions -/

theorem numCounts_eq_zero_iff (w : Word) : numCounts (zext32 w) = 0 ↔ w = 0xFFFFFFFE := by
  rw [numCounts_eq, zext32]
  constructor
  · intro h
    exact BitVec.eq_of_toNat_eq (by simp; omega)
  · rintro rfl
    rfl

theorem Regs.matchOk_iff (r : Regs) :
    r.matchOk = true ↔ r.reloadValue.toNat < r.matchValue.toNat ∧ r.matchValue.toNat ≤ 0xFFFFFFFE := by
  unfold Regs.matchOk matchInRange zext32 maxU32
  rw [Bool.and_eq_true, decide_eq_true_iff, decide_eq_true_iff]
  omega

theorem Regs.busy_iff (r : Regs) : r.busy = true ↔ r.active = true ∨ r.seqState ≠ .idle := by
  simp [Regs.busy]

/-- A ratio of at most 7 is that of a divisor below 256 (R132, R165). -/
theorem log2Floor_le_seven_iff {a : Word} (h : 0 < a.toInt) : log2Floor a.toInt.toNat ≤ 7 ↔ a.toInt < 256 := by
  have hlt := BitVec.toInt_lt (x := a)
  rw [log2Floor_eq_log2 (by omega), ← Nat.lt_succ_iff, Nat.log2_lt (by omega)]
  omega

/-! ### The body of every command -/

/-- What each command runs behind the prelude (R151). -/
def bodyOf : Instr → State → Result (Option Word)
  | .cfgfreq a => fun s => returnZero (opConfigureFrequency (asI32 a) s)
  | .setduty a => fun s => returnZero (opSetDutyCycle (asI32 a) s)
  | .on => fun s => returnZero (bodyOn s)
  | .off => fun s => returnZero (opTurnOff s)
  | .setpol a => fun s => returnZero (opWriteFlags (s.regs.flags.setPolarity (boolOperand a)) s)
  | .setpre a => fun s => returnZero (bodySetpre (asI32 a) s)
  | .getduty => bodyGetduty
  | .getfreq => fun s => .ok (some s.regs.frequency) s
  | .pbstart a b c => bodyPbstart a b c
  | .pbstop => fun s => returnZero (bodyStop s)
  | .pbsync => fun s => returnZero (bodyStop s)
  | .pbpos => fun s => .ok (some s.regs.cursor) s
  | .detach => fun s => returnZero (bodyDetach s)

theorem exec_eq_command (i : Instr) (s : State) : exec i s = .next (command i.opcode (bodyOf i) s) := by
  cases i <;> rfl

/-- The plan a command runs once its preconditions hold. -/
def planOf (s : State) : Instr → Plan
  | .cfgfreq a => frequencyPlan s (clampFreq s.platform a.toInt)
  | .setduty a => dutyPlan s a.toInt
  | .on => onPlan s
  | .off => flagsPlan s.regs.flags.stop
  | .setpol a => flagsPlan (s.regs.flags.setPolarity (boolOperand a))
  | .setpre a => flagsPlan (prescaleApply s.platform.prescaleMode s.regs.flags (2 ≤ a.toInt)
      (BitVec.ofNat 3 (log2Floor a.toInt.toNat)))
  | .getduty => idlePlan
  | .getfreq => idlePlan
  | .pbstart a b c => ⟨false, [], Regs.startSession a b c⟩
  | .pbstop => stopPlan s
  | .pbsync => stopPlan s
  | .pbpos => idlePlan
  | .detach => detachPlan s

/-- The value a command answers once it has completed; none for PBSTART, which is answered at its session's end. -/
def valueOf (s : State) : Instr → Option Word
  | .getduty => some (asU32 (dutyOf (zext32 s.regs.matchValue) (zext32 s.regs.reloadValue)))
  | .getfreq => some s.regs.frequency
  | .pbpos => some s.regs.cursor
  | .pbstart _ _ _ => none
  | .cfgfreq _ => some 0
  | .setduty _ => some 0
  | .on => some 0
  | .off => some 0
  | .setpol _ => some 0
  | .setpre _ => some 0
  | .pbstop => some 0
  | .pbsync => some 0
  | .detach => some 0

theorem idlePlan_run (s : State) : idlePlan.run s = .ok () s := by
  simp [idlePlan, Plan.run, runAccesses, State.commit]

/-- A command whose preconditions hold runs its plan. -/
theorem bodyOf_eq_run {i : Instr} {s : State} (h : preconditionError s i = none) :
    bodyOf i s = ((planOf s i).run s).andThen fun _ t => .ok (valueOf s i) t := by
  cases i with
  | cfgfreq a =>
    simp only [preconditionError, ite_eq_right_iff, reduceCtorEq, imp_false] at h
    exact congrArg returnZero (opConfigureFrequency_eq_run h)
  | setduty a =>
    simp only [preconditionError] at h
    split_ifs at h with h1 h2 h3
    refine congrArg returnZero (opSetDutyCycle_eq_run (p := a.toInt) (by omega) (by omega) ?_ ?_)
    · intro hp
      simpa [hp] using h2
    · intro hp
      simpa [hp, numCounts_eq_zero_iff] using h3
  | on =>
    simp only [preconditionError] at h
    split_ifs at h with h1 h2
    exact congrArg returnZero (bodyOn_eq_run (by simpa using h1) ((Regs.matchOk_iff _).mpr h2))
  | off => exact congrArg returnZero (opTurnOff_eq_run s)
  | setpol a => exact congrArg returnZero (opWriteFlags_eq_run _ s)
  | setpre a =>
    simp only [preconditionError] at h
    split_ifs at h with h1 h2
    have hratio := (log2Floor_le_seven_iff (a := a) (by omega)).mpr (by omega)
    rcases bodySetpre_cases a.toInt s with ⟨hbad, -⟩ | ⟨-, -, hbody⟩
    · omega
    · exact congrArg returnZero (hbody.trans (opWriteFlags_eq_run _ s))
  | getduty =>
    simp only [preconditionError] at h
    split_ifs at h with h1 h2 h3
    have hok := (Regs.matchOk_iff _).mpr h3
    rcases bodyGetduty_cases s with ⟨hs, -⟩ | ⟨-, hbad, -⟩ | ⟨-, -, -, hbody⟩
    · exact absurd hs h1
    · rcases hbad with hbad | hbad
      · exact absurd ((numCounts_eq_zero_iff _).mp hbad) h2
      · exact absurd hok (by simp [hbad])
    · simpa [bodyOf, valueOf, planOf, idlePlan_run] using hbody
  | getfreq => simp [bodyOf, planOf, valueOf, idlePlan_run]
  | pbstart a b c =>
    simp only [preconditionError] at h
    split_ifs at h with h1 h2
    rcases bodyPbstart_cases a b c s with ⟨hbusy, -⟩ | ⟨-, hwrap, -⟩ | ⟨-, -, hbody⟩
    · exact absurd ((Regs.busy_iff _).mp hbusy) h1
    · exact absurd hwrap h2
    · simpa [bodyOf, planOf, valueOf, Plan.run, runAccesses] using hbody
  | pbstop => exact congrArg returnZero (bodyStop_eq_run s)
  | pbsync => exact congrArg returnZero (bodyStop_eq_run s)
  | pbpos => simp [bodyOf, planOf, valueOf, idlePlan_run]
  | detach =>
    simp only [preconditionError, ite_eq_right_iff, reduceCtorEq, imp_false, ← Regs.busy_iff] at h
    exact congrArg returnZero (bodyDetach_eq_run (by simpa using h))

/-- A command with a failing precondition raises its error before any access (R266). -/
theorem bodyOf_eq_raised {i : Instr} {s : State} {e : ErrorKind} (h : preconditionError s i = some e) :
    bodyOf i s = .raised e s := by
  cases i with
  | cfgfreq a =>
    simp only [preconditionError] at h
    split_ifs at h with h1
    obtain rfl := Option.some.inj h
    exact congrArg returnZero (opConfigureFrequency_zero _ h1)
  | setduty a =>
    simp only [preconditionError] at h
    by_cases hp : a.toInt = 0
    · simp [hp] at h
    rcases opSetDutyCycle_outcome a.toInt s hp with
      ⟨hrange, hbody⟩ | ⟨h0, h100, hc, hbody⟩ | ⟨h0, h100, hc, hn, hbody⟩ | ⟨h0, h100, hc, hn, -⟩
    · rw [if_pos hrange] at h
      obtain rfl := Option.some.inj h
      exact congrArg returnZero hbody
    · rw [if_neg (by omega), if_pos ⟨hp, hc⟩] at h
      obtain rfl := Option.some.inj h
      exact congrArg returnZero hbody
    · rw [if_neg (by omega), if_neg (by simp [hc]), if_pos ⟨hp, (numCounts_eq_zero_iff _).mp hn⟩] at h
      obtain rfl := Option.some.inj h
      exact congrArg returnZero hbody
    · rw [if_neg (by omega), if_neg (by simp [hc]), if_neg (by simpa [hp, numCounts_eq_zero_iff] using hn)] at h
      cases h
  | on =>
    simp only [preconditionError, ← Regs.matchOk_iff] at h
    rcases bodyOn_outcome s with ⟨hc, hbody⟩ | ⟨hc, hm, hbody⟩ | ⟨hc, hm, -⟩
    · rw [if_pos hc] at h
      obtain rfl := Option.some.inj h
      exact congrArg returnZero hbody
    · rw [if_neg (by simp [hc]), if_neg (by simp [hm])] at h
      obtain rfl := Option.some.inj h
      exact congrArg returnZero hbody
    · rw [if_neg (by simp [hc]), if_pos hm] at h
      cases h
  | setpre a =>
    simp only [preconditionError] at h
    rcases bodySetpre_cases a.toInt s with ⟨hbad, hbody⟩ | ⟨hpos, hratio, -⟩
    · obtain rfl : .configError = e := by
        split_ifs at h
        · exact Option.some.inj h
        · exact Option.some.inj h
      exact congrArg returnZero hbody
    · have := (log2Floor_le_seven_iff hpos).mp hratio
      rw [if_neg (by omega), if_neg (by omega)] at h
      cases h
  | getduty =>
    simp only [preconditionError, ← Regs.matchOk_iff, ← numCounts_eq_zero_iff] at h
    rcases bodyGetduty_cases s with ⟨hs, hbody⟩ | ⟨hs, hbad, hbody⟩ | ⟨hs, hn, hm, -⟩
    · rw [if_pos hs] at h
      obtain rfl := Option.some.inj h
      exact hbody
    · obtain rfl : .configError = e := by
        rcases hbad with hn | hm
        · simpa [hs, hn] using h
        · simpa [hs, hm] using h
      exact hbody
    · rw [if_neg (by simp [hs]), if_neg hn, if_pos hm] at h
      cases h
  | pbstart a b c =>
    simp only [preconditionError, ← Regs.busy_iff] at h
    rcases bodyPbstart_cases a b c s with ⟨hb, hbody⟩ | ⟨hb, hwrap, hbody⟩ | ⟨hb, hfits, -⟩
    · rw [if_pos hb] at h
      obtain rfl := Option.some.inj h
      exact hbody
    · rw [if_neg (by simp [hb]), if_pos hwrap] at h
      obtain rfl := Option.some.inj h
      exact hbody
    · rw [if_neg (by simp [hb]), if_neg (Nat.not_lt.mpr hfits)] at h
      cases h
  | detach =>
    simp only [preconditionError, ← Regs.busy_iff] at h
    split_ifs at h with hb
    obtain rfl := Option.some.inj h
    simp [bodyOf, bodyDetach, hb]
  | _ => simp [preconditionError] at h

/-! ### Everything a command can do -/

/-- Why a command is refused (R151, R266): it finds the block DETACHED, or one of its preconditions fails. -/
def refusal (s : State) (i : Instr) : Option ErrorKind :=
  if s.regs.detached then some .stateError else preconditionError s i

theorem refusal_of_detached {s : State} (h : s.regs.detached = true) (i : Instr) :
    refusal s i = some .stateError := by
  simp [refusal, h]

theorem refusal_of_attached {s : State} (h : s.regs.detached = false) (i : Instr) :
    refusal s i = preconditionError s i := by
  simp [refusal, h]

theorem refusal_eq_none_iff {s : State} {i : Instr} :
    refusal s i = none ↔ s.regs.detached = false ∧ preconditionError s i = none := by
  cases h : s.regs.detached <;> simp [refusal, h]

/-- IOError is no precondition's (R261). -/
theorem refusal_ne_ioError {s : State} {i : Instr} {e : ErrorKind} (h : refusal s i = some e) : e ≠ .ioError := by
  rintro rfl
  unfold refusal at h
  split at h
  · cases h
  · cases i <;> simp [preconditionError, ite_eq_iff] at h

/-- A refused command is answered with its error and has no other effect. -/
theorem exec_refused {i : Instr} {s : State} {e : ErrorKind} (h : refusal s i = some e) :
    exec i s = .next (s.emit (.response ⟨i.opcode, .error e, 0⟩)) := by
  rw [exec_eq_command]
  cases hd : s.regs.detached with
  | true =>
    obtain rfl : .stateError = e := by simpa [refusal, hd] using h
    rw [command_detached _ _ _ hd]
  | false =>
    rw [refusal_of_attached hd] at h
    rw [command_raised hd (bodyOf_eq_raised h)]

/-- A command whose plan stops is answered IOError. -/
theorem exec_stopped {i : Instr} {s : State} {es : List Event} {r : Regs} (h : refusal s i = none)
    (hs : (planOf s i).Stops s es r) :
    exec i s = .next (((s.issued es).commit fun _ => r).emit (.response ⟨i.opcode, .error .ioError, 0⟩)) := by
  obtain ⟨hd, hp⟩ := refusal_eq_none_iff.mp h
  have body : bodyOf i s = .raised .ioError ((s.issued es).commit fun _ => r) := by
    rw [bodyOf_eq_run hp, Plan.run_stops hs, Result.andThen_raised]
  rw [exec_eq_command, command_raised hd body]

/-- A command that is not refused and whose accesses are all accepted completes its plan. -/
theorem bodyOf_accepts {i : Instr} {s : State} (h : preconditionError s i = none)
    (ha : s.accepts ((planOf s i).answers s)) : bodyOf i s =
      .ok (valueOf s i) ((s.issued ((planOf s i).events s)).commit fun _ => (planOf s i).regs s) := by
  rw [bodyOf_eq_run h, Plan.run_accepts ha, Result.andThen_ok]

/-- A command that completes is answered OK with its value. -/
theorem exec_answered {i : Instr} {s : State} {v : Word} (h : refusal s i = none) (hv : valueOf s i = some v)
    (ha : s.accepts ((planOf s i).answers s)) :
    exec i s = .next (((s.issued ((planOf s i).events s)).commit fun _ => (planOf s i).regs s).emit
      (.response ⟨i.opcode, .ok, v⟩)) := by
  obtain ⟨hd, hp⟩ := refusal_eq_none_iff.mp h
  rw [exec_eq_command, command_ok hd ((bodyOf_accepts hp ha).trans (by rw [hv]))]

/-- An accepted PBSTART begins its session and is not answered yet (R201). -/
theorem exec_pbstart_accepted {a b c : Word} {s : State} (h : refusal s (.pbstart a b c) = none) :
    exec (.pbstart a b c) s = .next (s.commit (Regs.startSession a b c)) := by
  obtain ⟨hd, hp⟩ := refusal_eq_none_iff.mp h
  have body := bodyOf_accepts hp (fun k hk => absurd hk (Nat.not_lt_zero k))
  rw [exec_eq_command, command_deferred hd body]
  simp [planOf, Plan.events, Plan.muxEvents, Plan.regs, Plan.muxRegs, State.commit]

theorem valueOf_cases (s : State) (i : Instr) :
    (∃ a b c, i = .pbstart a b c) ∨ ((¬ ∃ a b c, i = .pbstart a b c) ∧ ∃ v, valueOf s i = some v) := by
  cases i with
  | pbstart a b c => exact .inl ⟨a, b, c, rfl⟩
  | _ => exact .inr ⟨by simp, _, rfl⟩

/-- Everything a command can do: it is refused, an accepted PBSTART begins its session, its plan completes and it is
answered OK, or its plan stops and it is answered IOError. -/
theorem exec_cases {i : Instr} {s t : State} (h : exec i s = .next t) :
    (∃ e, refusal s i = some e ∧ t = s.emit (.response ⟨i.opcode, .error e, 0⟩)) ∨
    (refusal s i = none ∧
      ((∃ a b c, i = .pbstart a b c ∧ t = s.commit (Regs.startSession a b c)) ∨
       ((¬ ∃ a b c, i = .pbstart a b c) ∧ s.accepts ((planOf s i).answers s) ∧ ∃ v, valueOf s i = some v ∧
          t = ((s.issued ((planOf s i).events s)).commit fun _ => (planOf s i).regs s).emit
            (.response ⟨i.opcode, .ok, v⟩)) ∨
       (∃ es r, (planOf s i).Stops s es r ∧
          t = ((s.issued es).commit fun _ => r).emit (.response ⟨i.opcode, .error .ioError, 0⟩)))) := by
  cases hr : refusal s i with
  | some e => exact .inl ⟨e, rfl, (Host.Outcome.next.inj ((exec_refused hr).symm.trans h)).symm⟩
  | none =>
    refine .inr ⟨rfl, ?_⟩
    rcases valueOf_cases s i with ⟨a, b, c, rfl⟩ | ⟨hi, v, hv⟩
    · exact .inl ⟨a, b, c, rfl, (Host.Outcome.next.inj ((exec_pbstart_accepted hr).symm.trans h)).symm⟩
    rcases (planOf s i).accepts_or_stops s with ha | ⟨es, r, hs⟩
    · exact .inr (.inl ⟨hi, ha, v, hv, (Host.Outcome.next.inj ((exec_answered hr hv ha).symm.trans h)).symm⟩)
    · exact .inr (.inr ⟨es, r, hs, (Host.Outcome.next.inj ((exec_stopped hr hs).symm.trans h)).symm⟩)

/-- Every command has a next state. -/
theorem exec_next (i : Instr) (s : State) : ∃ t, exec i s = .next t := ⟨_, exec_eq_command i s⟩

end Sys2Proof.Machine
end

section
/-! Where each command completes (spec/41_pwm_controller.md, spec/42_playback_engine.md): the plan of the command, with
every access accepted. -/

namespace Sys2Proof.Machine

/-- A command that completes, with its whole effect and frame. -/
theorem exec_completes {i : Instr} {s : State} {v : Word} {n : Nat} (hd : s.regs.detached = false)
    (hp : preconditionError s i = none) (hv : valueOf s i = some v) (hn : (planOf s i).answers s = n)
    (ha : s.accepts n) :
    exec i s = .next { s with
      regs := (planOf s i).regs s
      answers := s.answers.drop n
      answerNo := s.answerNo + n
      trace := s.trace ++ (planOf s i).events s ++ [.response ⟨i.opcode, .ok, v⟩] } := by
  subst hn
  rw [exec_answered (refusal_eq_none_iff.mpr ⟨hd, hp⟩) hv ha]
  simp [State.emit, State.commit, State.issued, Plan.events_length ha]

/-- A command that runs enable_mux and completes: the mux part, then its own writes. -/
theorem exec_completes_mux {i : Instr} {s : State} {v : Word} {as : List Access} {f : Regs → Regs}
    (hd : s.regs.detached = false) (hp : preconditionError s i = none) (hplan : planOf s i = ⟨true, as, f⟩)
    (hv : valueOf s i = some v) (ha : s.accepts (muxAnswers s + as.length)) :
    exec i s = .next { s with
      regs := f (muxRegs s)
      answers := s.answers.drop (muxAnswers s + as.length)
      answerNo := s.answerNo + (muxAnswers s + as.length)
      trace := s.trace ++ muxEvents s ++
        (as.map (Access.event s.platform true) ++ [.response ⟨i.opcode, .ok, v⟩]) } := by
  rw [exec_completes hd hp hv (by rw [hplan]; rfl) ha, hplan]
  simp [Plan.regs, Plan.muxRegs, Plan.events, Plan.muxEvents]

/-- A command that runs no access and changes no register: only its response is added. -/
theorem exec_completes_idle {i : Instr} {s : State} {v : Word} (hd : s.regs.detached = false)
    (hp : preconditionError s i = none) (hplan : planOf s i = idlePlan) (hv : valueOf s i = some v) :
    exec i s = .next { s with trace := s.trace ++ [.response ⟨i.opcode, .ok, v⟩] } := by
  rw [exec_completes hd hp hv (by rw [hplan]; rfl) (n := 0) (fun k hk => absurd hk (Nat.not_lt_zero k)), hplan]
  simp [Plan.regs, Plan.muxRegs, Plan.events, Plan.muxEvents, idlePlan]

/-! ### The controller's commands -/

/-- Settles O17: CFGFREQ's only precondition is a nonzero clamped frequency. -/
theorem cfgfreqCompletes : Obligations.CfgfreqCompletes := by
  unfold Obligations.CfgfreqCompletes
  intro s a f r hd hf ha
  have hp : preconditionError s (.cfgfreq a) = none := if_neg hf
  exact exec_completes_mux hd hp rfl rfl ha

theorem preconditionError_setduty {s : State} {a : Word} (h1 : 1 ≤ a.toInt) (h100 : a.toInt ≤ 100)
    (hc : s.regs.configured = true) (hn : s.regs.reloadValue ≠ 0xFFFFFFFE) :
    preconditionError s (.setduty a) = none := by
  rw [preconditionError, if_neg (by omega), if_neg (by simp [hc]), if_neg (fun h => hn h.2)]

/-- op_set_duty_cycle's plan where there is a match value to write. -/
theorem dutyPlan_some {s : State} {p m : Int}
    (hm : computeMatch p s.regs.reloadValue.toNat (numCounts s.regs.reloadValue.toNat) = some m) :
    dutyPlan s p = ⟨true, [.timer .ctrl (ctrlWord s.regs.flags.stop), .timer .matchReg (asU32 m),
      .timer .ctrl (ctrlWord s.regs.flags.start)], Regs.commitDuty (asU32 m)⟩ := by
  simp only [dutyPlan, zext32, hm]

/-- Settles O18: enable_mux leaves the flags, so that the commit starts those of before. -/
theorem setdutyNonzeroCompletes : Obligations.SetdutyNonzeroCompletes := by
  unfold Obligations.SetdutyNonzeroCompletes
  intro s a m hd h1 h100 hc hn hm ha
  rw [exec_completes_mux hd (preconditionError_setduty h1 h100 hc hn) (dutyPlan_some hm) rfl ha]
  simp [Regs.commitDuty, Access.event, Flags.start, Flags.stop, Instr.opcode]

/-- Settles O19: percentage 0 has no match value and no precondition. -/
theorem setdutyZeroCompletes : Obligations.SetdutyZeroCompletes := by
  unfold Obligations.SetdutyZeroCompletes
  intro s hd ha
  have hp : preconditionError s (.setduty 0) = none := by simp [preconditionError]
  exact exec_completes_mux hd hp rfl rfl ha

/-- Settles O20: the range test of R159 on words is that on their numbers. -/
theorem onCompletes : Obligations.OnCompletes := by
  unfold Obligations.OnCompletes
  intro s hd hc hlow hhigh ha
  have hp : preconditionError s .on = none := by simp [preconditionError, hc, hlow, hhigh]
  exact exec_completes_mux hd hp rfl rfl ha

/-- Settles O21: OFF has no precondition. -/
theorem offCompletes : Obligations.OffCompletes := by
  unfold Obligations.OffCompletes
  intro s hd ha
  exact exec_completes_mux (i := .off) hd rfl rfl rfl ha

/-- Settles O22: the polarity is the operand's lowest bit. -/
theorem setpolCompletes : Obligations.SetpolCompletes := by
  unfold Obligations.SetpolCompletes
  intro s activeHigh hd ha
  have hbit : boolOperand (if activeHigh then 1 else 0) = activeHigh := by cases activeHigh <;> rfl
  have hplan : planOf s (.setpol (if activeHigh then 1 else 0)) = flagsPlan (s.regs.flags.setPolarity activeHigh) := by
    rw [planOf, hbit]
  exact exec_completes_mux hd rfl hplan rfl ha

/-- The flags SETPRE writes (R165, R166), for a divisor of at most 31 bits. -/
theorem prescaleApply_eq {s : State} {a : Word} {f : Flags} (hpos : 1 ≤ a.toInt)
    (hmerge : s.platform.prescaleMode = .merge → f = { s.regs.flags with
      prescaleEnable := decide (2 ≤ a.toInt), prescaleRatio := BitVec.ofNat 3 (Nat.log2 a.toNat) })
    (hclear : s.platform.prescaleMode = .refClear →
      f = ⟨false, false, false, false, BitVec.ofNat 3 (Nat.log2 a.toNat)⟩) :
    prescaleApply s.platform.prescaleMode s.regs.flags (decide (2 ≤ a.toInt))
      (BitVec.ofNat 3 (log2Floor a.toInt.toNat)) = f := by
  have hnat : a.toInt.toNat = a.toNat := by
    have := a.toInt_eq_toNat_cond
    split at this <;> omega
  rw [hnat, log2Floor_eq_log2 a.isLt]
  cases hmode : s.platform.prescaleMode with
  | merge => exact (hmerge hmode).symm
  | refClear => exact (hclear hmode).symm

/-- Settles O23: the ratio is the logarithm by `log2Floor_eq_log2`. -/
theorem setpreCompletes : Obligations.SetpreCompletes := by
  unfold Obligations.SetpreCompletes
  intro s a f hd h1 h255 ha hmerge hclear
  have hp : preconditionError s (.setpre a) = none := by
    rw [preconditionError, if_neg (by omega), if_neg (by omega)]
  have hplan : planOf s (.setpre a) = flagsPlan f := congrArg flagsPlan (prescaleApply_eq h1 hmerge hclear)
  exact exec_completes_mux hd hp hplan rfl ha

/-- The duty cycle of R129 on words whose match value is in range. -/
theorem dutyOf_eq {r : Regs} (hlow : r.reloadValue.toNat < r.matchValue.toNat) (hhigh : r.matchValue.toNat ≤ 0xFFFFFFFE) :
    asU32 (dutyOf (zext32 r.matchValue) (zext32 r.reloadValue)) = BitVec.ofNat 32
      (100 * (r.matchValue.toNat - r.reloadValue.toNat) / (0xFFFFFFFE - r.reloadValue.toNat)) := by
  have hoffset : zext32 r.matchValue - zext32 r.reloadValue = ((r.matchValue.toNat - r.reloadValue.toNat : Nat) : Int) := by
    unfold zext32
    omega
  have hcounts : numCounts (zext32 r.reloadValue) = ((0xFFFFFFFE - r.reloadValue.toNat : Nat) : Int) := by
    rw [numCounts_eq, zext32]
    omega
  rw [dutyOf, hoffset, hcounts, asU32]
  norm_cast

/-- Settles O24: a match value above the reload value and below MAXU32 leaves num_counts above 0. -/
theorem getdutyCompletes : Obligations.GetdutyCompletes := by
  unfold Obligations.GetdutyCompletes
  intro s hd hs hlow hhigh
  have hn : s.regs.reloadValue ≠ 0xFFFFFFFE := by
    intro h
    rw [h] at hlow
    exact absurd hlow (by simpa using hhigh)
  have hp : preconditionError s .getduty = none := by
    rw [preconditionError, if_neg (by simp [hs]), if_neg hn, if_pos ⟨hlow, hhigh⟩]
  rw [exec_completes_idle hd hp rfl rfl, dutyOf_eq hlow hhigh]
  rfl

/-- Settles O25: neither command has a precondition. -/
theorem getfreqAndPbposComplete : Obligations.GetfreqAndPbposComplete := by
  unfold Obligations.GetfreqAndPbposComplete
  intro s hd
  exact ⟨exec_completes_idle hd rfl rfl rfl, exec_completes_idle hd rfl rfl rfl⟩

theorem stopAccesses_events (s : State) : (stopAccesses s).map (Access.event s.platform true) =
    if s.regs.flags.started then
      [.write32 (regAddr s.platform .ctrl) (ctrlWord s.regs.flags.stop) true] else [] := by
  unfold stopAccesses
  split <;> rfl

theorem restoreAccesses_events (s : State) : (restoreAccesses s).map (Access.event s.platform true) =
    if s.regs.muxSaved then [.write16 s.platform.muxOff s.regs.savedMux true] else [] := by
  unfold restoreAccesses
  split <;> rfl

/-- Settles O26: the two lists of events are those of DETACH's two conditional writes. -/
theorem detachCompletes : Obligations.DetachCompletes := by
  unfold Obligations.DetachCompletes
  intro s stop restore hd hactive hidle hstop hrestore ha
  replace hstop : stop = (stopAccesses s).map (Access.event s.platform true) := hstop.trans (stopAccesses_events s).symm
  replace hrestore : restore = (restoreAccesses s).map (Access.event s.platform true) :=
    hrestore.trans (restoreAccesses_events s).symm
  have hp : preconditionError s .detach = none := by simp [preconditionError, hactive, hidle]
  have hn : (planOf s .detach).answers s = stop.length + restore.length := by
    simp [planOf, detachPlan, Plan.answers, Plan.muxAnswers, hstop, hrestore]
  rw [exec_completes hd hp rfl hn ha]
  simp [planOf, detachPlan, Plan.regs, Plan.muxRegs, Plan.events, Plan.muxEvents, hstop, hrestore, Regs.commitDetach,
    Flags.stop, Instr.opcode]

/-! ### The playback commands -/

/-- Settles O27: an accepted PBSTART is its commit block. -/
theorem pbstartCompletes : Obligations.PbstartCompletes := by
  unfold Obligations.PbstartCompletes
  intro s a b c hd hactive hidle hfits
  have hp : preconditionError s (.pbstart a b c) = none := by
    rw [preconditionError, if_neg (by simp [hactive, hidle]), if_neg (by omega)]
  exact exec_pbstart_accepted (refusal_eq_none_iff.mpr ⟨hd, hp⟩)

/-- PBSTOP and PBSYNC, which differ in their opcode only. -/
theorem exec_stop_completes {s : State} {i : Instr} (hd : s.regs.detached = false)
    (hp : preconditionError s i = none) (hplan : planOf s i = stopPlan s) (hv : valueOf s i = some 0) :
    (s.regs.active = false → exec i s = .next { s with trace := s.trace ++ [.response ⟨i.opcode, .ok, 0⟩] }) ∧
    (s.regs.active = true → s.accepts (muxAnswers s + 1) →
      exec i s = .next { s with
        regs := { muxRegs s with flags := s.regs.flags.stop, active := false }
        answers := s.answers.drop (muxAnswers s + 1)
        answerNo := s.answerNo + (muxAnswers s + 1)
        trace := s.trace ++ muxEvents s ++
          [.write32 (regAddr s.platform .ctrl) (ctrlWord s.regs.flags.stop) true,
           .response ⟨i.opcode, .ok, 0⟩] }) := by
  unfold stopPlan at hplan
  constructor
  · intro hactive
    exact exec_completes_idle hd hp (by simpa [hactive] using hplan) hv
  · intro hactive ha
    rw [hactive, if_pos rfl] at hplan
    exact exec_completes_mux hd hp hplan hv ha

/-- Settles O28: both commands run the one stop body. -/
theorem pbstopAndPbsyncComplete : Obligations.PbstopAndPbsyncComplete := by
  unfold Obligations.PbstopAndPbsyncComplete
  rintro s i op (⟨rfl, rfl⟩ | ⟨rfl, rfl⟩) hd
  · exact exec_stop_completes hd rfl rfl rfl
  · exact exec_stop_completes hd rfl rfl rfl

end Sys2Proof.Machine
end

section
/-! Where a command is refused or fails (spec/60_exceptions.md): the answers to a command, one by one from
`exec_cases`. -/

namespace Sys2Proof.Machine

/-! ### Refused commands -/

/-- Settles O30: the first failing precondition is the refusal of a command that is not DETACHED. -/
theorem preconditionsComeFirst : Obligations.PreconditionsComeFirst := by
  unfold Obligations.PreconditionsComeFirst
  intro i s e hd hp
  exact exec_refused ((refusal_of_attached hd i).trans hp)

/-! ### enable_mux -/

theorem lookup_map_self {α β : Type} [BEq α] [LawfulBEq α] (g : α → β) {v : α} {l : List α} (h : v ∈ l) :
    (l.map fun u => (u, g u)).lookup v = some (g v) := by
  induction l with
  | nil => cases h
  | cons u l ih =>
    by_cases hv : v = u
    · subst hv
      simp
    · have hbeq : (v == u) = false := by simpa using hv
      simpa [List.lookup_cons, hbeq] using ih (List.mem_of_ne_of_mem hv h)

/-- Every function of 16 bits is the MUXFN of its full table (R11). -/
theorem exists_muxFn (g : Half → Half) : ∃ m : Config.MuxFn, ∀ v, muxValue m v = g v := by
  refine ⟨⟨((List.range (2 ^ 16)).map (BitVec.ofNat 16)).map fun u => (u, g u), 0⟩, fun v => ?_⟩
  have listed : v ∈ (List.range (2 ^ 16)).map (BitVec.ofNat 16) :=
    List.mem_map.mpr ⟨v.toNat, List.mem_range.mpr v.isLt, BitVec.ofNat_toNat 16 v ▸ by simp⟩
  rw [muxValue, lookup_map_self g listed, Option.getD_some]

/-- The plan of a command uses the mux exactly where the command runs enable_mux. -/
theorem planOf_usesMux (s : State) (i : Instr) : (planOf s i).usesMux = runsEnableMux s i := by
  cases i with
  | setduty a =>
    simp only [planOf, dutyPlan]
    split <;> rfl
  | pbstop => cases ha : s.regs.active <;> simp [planOf, stopPlan, idlePlan, runsEnableMux, ha]
  | pbsync => cases ha : s.regs.active <;> simp [planOf, stopPlan, idlePlan, runsEnableMux, ha]
  | _ => rfl

/-- Settles O31: the two ways a plan stops in its mux part. -/
theorem failedMuxSaveCommitsNothing : Obligations.FailedMuxSaveCommitsNothing := by
  unfold Obligations.FailedMuxSaveCommitsNothing
  refine ⟨exists_muxFn, fun i s hd hp hruns hm => ⟨fun hf => ?_, fun v hv hf => ?_⟩⟩
  · have hmux := (planOf_usesMux s i).trans hruns
    rw [exec_stopped (refusal_eq_none_iff.mpr ⟨hd, hp⟩) (.muxRead hmux hm hf)]
    simp [State.issued, State.commit, State.emit]
  · have hmux := (planOf_usesMux s i).trans hruns
    rw [exec_stopped (refusal_eq_none_iff.mpr ⟨hd, hp⟩) (.muxWrite hmux hm v hv hf)]
    simp [State.issued, State.commit, State.emit]

/-- Settles O33: the plan of SETDUTY stops at the second of its writes. -/
theorem setdutyFailingAtTheMatchWrite : Obligations.SetdutyFailingAtTheMatchWrite := by
  unfold Obligations.SetdutyFailingAtTheMatchWrite
  intro s a m v hd h1 h100 hc hm hn hmatch h0 hf
  have hp := preconditionError_setduty h1 h100 hc hn
  have hplan : planOf s (.setduty a) = _ := dutyPlan_some hmatch
  have hnone : (planOf s (.setduty a)).muxAnswers s = 0 := by simp [Plan.muxAnswers, muxAnswers, hm]
  have stops := Plan.Stops.access (p := planOf s (.setduty a)) (s := s) [.timer .ctrl (ctrlWord s.regs.flags.stop)]
    (.timer .matchReg (asU32 m)) [.timer .ctrl (ctrlWord s.regs.flags.start)] (by rw [hplan]; rfl)
    (by rw [hnone]; exact State.accepts_succ (fun k hk => absurd hk (Nat.not_lt_zero k)) h0) (by rw [hnone]; exact hf)
  rw [exec_stopped (refusal_eq_none_iff.mpr ⟨hd, hp⟩) stops]
  simp [State.issued, State.commit, State.emit, Plan.muxEvents, muxEvents, Plan.muxRegs, muxRegs, hm, Access.event,
    Flags.stop, Instr.opcode]

/-! ### The answer to every command -/

/-- The response that ends a trace is the last of the events added. -/
theorem last_of_trace {s t : State} {es fs : List Event} {e : Event} (h : t.trace = s.trace ++ es)
    (h' : t.trace = s.trace ++ (fs ++ [e])) : es = fs ++ [e] :=
  List.append_cancel_left (h.symm.trans h')

/-- How a command that ends with a response ends: refused, completed, or stopped. -/
theorem exec_response_cases {i : Instr} {s t : State} {es : List Event} {st : Status} {v : Word}
    (h : exec i s = .next t) (htrace : t.trace = s.trace ++ es)
    (hlast : es.getLast? = some (.response ⟨i.opcode, st, v⟩)) :
    (∃ e, refusal s i = some e ∧ st = .error e ∧ v = 0 ∧ t = s.emit (.response ⟨i.opcode, .error e, 0⟩)) ∨
    (refusal s i = none ∧ (¬ ∃ a b c, i = .pbstart a b c) ∧ st = .ok ∧ s.accepts ((planOf s i).answers s) ∧
      valueOf s i = some v ∧ t = ((s.issued ((planOf s i).events s)).commit fun _ => (planOf s i).regs s).emit
        (.response ⟨i.opcode, .ok, v⟩)) ∨
    (refusal s i = none ∧ st = .error .ioError ∧ v = 0 ∧ ∃ fs r, (planOf s i).Stops s fs r ∧
      t = ((s.issued fs).commit fun _ => r).emit (.response ⟨i.opcode, .error .ioError, 0⟩)) := by
  have answer : ∀ {fs st' v'}, t.trace = s.trace ++ (fs ++ [.response ⟨i.opcode, st', v'⟩]) → st = st' ∧ v = v' := by
    intro fs st' v' h'
    rw [last_of_trace htrace h', List.getLast?_concat] at hlast
    simp only [Option.some.injEq, Event.response.injEq, Response.mk.injEq, true_and] at hlast
    exact ⟨hlast.1.symm, hlast.2.symm⟩
  rcases exec_cases h with ⟨e, hr, rfl⟩ | ⟨hr, ⟨a, b, c, rfl, rfl⟩ | ⟨hi, ha, w, hv, rfl⟩ | ⟨fs, r, hs, rfl⟩⟩
  · obtain ⟨rfl, rfl⟩ := answer (fs := []) rfl
    exact .inl ⟨e, hr, rfl, rfl, rfl⟩
  · have hnil : es = [] := by simpa using htrace
    simp [hnil] at hlast
  · obtain ⟨rfl, rfl⟩ := answer (List.append_assoc _ _ _)
    exact .inr (.inl ⟨hr, hi, rfl, ha, hv, rfl⟩)
  · obtain ⟨rfl, rfl⟩ := answer (List.append_assoc _ _ _)
    exact .inr (.inr ⟨hr, rfl, rfl, fs, r, hs, rfl⟩)

/-- Settles O32: a refused command has no access; a stopped plan commits nothing but a completed mux save, and its last
access is the one that failed. -/
theorem errorsAreAtomic : Obligations.ErrorsAreAtomic := by
  unfold Obligations.ErrorsAreAtomic
  intro i s t es e v h htrace hlast
  rcases exec_response_cases h htrace hlast with ⟨e', hr, hst, rfl, rfl⟩ | ⟨-, -, hst, -⟩ | ⟨-, hst, rfl, fs, r, hs, rfl⟩
  · obtain rfl := Status.error.inj hst
    have hes : es = [.response ⟨i.opcode, .error e, 0⟩] := last_of_trace (fs := []) htrace rfl
    exact ⟨rfl, rfl, fun _ => ⟨rfl, hes, rfl⟩, fun hio => absurd hio (refusal_ne_ioError hr)⟩
  · cases hst
  · obtain rfl := Status.error.inj hst
    have hes := last_of_trace htrace (List.append_assoc _ _ _)
    refine ⟨rfl, rfl, fun hio => absurd rfl hio, fun _ => ⟨?_, ?_⟩⟩
    · rcases hs.regs with rfl | ⟨w, hm, hd, rfl⟩
      · exact .inl rfl
      · exact .inr ⟨hm, hd, rfl⟩
    · obtain ⟨before, x, rfl, hx, hbefore⟩ := hs.events
      exact ⟨before, x, by simp [hes], hx, hbefore⟩

/-- Settles O35: a command that is not refused completes or stops. -/
theorem onlyIoErrorAfterThePreconditions : Obligations.OnlyIoErrorAfterThePreconditions := by
  unfold Obligations.OnlyIoErrorAfterThePreconditions
  intro i s t es st v hd hp h htrace hlast
  have granted := refusal_eq_none_iff.mpr ⟨hd, hp⟩
  rcases exec_response_cases h htrace hlast with ⟨e, hr, -⟩ | ⟨-, -, hst, -⟩ | ⟨-, hst, -⟩
  · rw [granted] at hr
    cases hr
  · exact .inl hst
  · exact .inr hst

/-- Events without a response, and then a command's response. -/
theorem answeredOnce {es : List Event} (h : ∀ e ∈ es, e.isResponse = false) (op : BitVec 8) (st : Status) (v : Word) :
    (es ++ [Event.response ⟨op, st, v⟩]).countP Event.isResponse = 1 ∧
      ∃ st' v', (es ++ [Event.response ⟨op, st, v⟩]).getLast? = some (.response ⟨op, st', v'⟩) := by
  have none_before : es.countP Event.isResponse = 0 := List.countP_eq_zero.mpr fun e he => by simp [h e he]
  refine ⟨?_, st, v, List.getLast?_concat⟩
  rw [List.countP_append, none_before]
  rfl

/-- PBSTART issues no access, so its plan cannot stop (R201). -/
theorem not_pbstart_of_stops {s : State} {i : Instr} {es : List Event} {r : Regs} (h : (planOf s i).Stops s es r) :
    ¬ ∃ a b c, i = .pbstart a b c := by
  rintro ⟨a, b, c, rfl⟩
  cases h with
  | muxRead hp => cases hp
  | muxWrite hp => cases hp
  | access before _ _ hl => simp [planOf] at hl

/-- Settles O34: a plan's events hold no response, and the prelude adds one. -/
theorem everyCommandIsAnsweredOnce : Obligations.EveryCommandIsAnsweredOnce := by
  unfold Obligations.EveryCommandIsAnsweredOnce
  intro i s
  obtain ⟨t, ht⟩ := exec_next i s
  refine ⟨t, ?_⟩
  rcases exec_cases ht with ⟨e, hr, rfl⟩ | ⟨hr, ⟨a, b, c, rfl, rfl⟩ | ⟨hi, -, v, -, rfl⟩ | ⟨fs, r, hs, rfl⟩⟩
  · refine ⟨[] ++ [_], ht, rfl, fun h => ?_, fun _ => answeredOnce (List.forall_mem_nil _) _ _ _⟩
    rw [refusal_eq_none_iff.mpr h.2] at hr
    cases hr
  · exact ⟨[], ht, (List.append_nil _).symm, fun _ => rfl,
      fun h => absurd ⟨⟨a, b, c, rfl⟩, refusal_eq_none_iff.mp hr⟩ h⟩
  · exact ⟨_, ht, List.append_assoc _ _ _, fun h => absurd h.1 hi,
      fun _ => answeredOnce ((planOf s i).events_no_response s) _ _ _⟩
  · exact ⟨_, ht, List.append_assoc _ _ _, fun h => absurd h.1 (not_pbstart_of_stops hs),
      fun _ => answeredOnce hs.events_no_response _ _ _⟩

end Sys2Proof.Machine
end

section
/-! The sequencer's transitions (spec/42_playback_engine.md R210 to R214), the tick, and attach: one step on each. -/

namespace Sys2Proof.Machine

/-! ### One step by its input -/

theorem step_tick {s : State} (h : s.nextInput = .tick) : step s = .next (tick s.inputTaken) := by
  rw [step, h, transition]

theorem step_sequencer {s : State} (h : s.nextInput = .sequencer) : step s = .next (sequencer s.inputTaken) := by
  rw [step, h, transition]

theorem step_attach {s : State} (h : s.nextInput = .attach) : step s = .next (attach s.inputTaken) := by
  rw [step, h, transition]

theorem step_check {s : State} (h : s.nextInput = .sequencer) (hq : s.regs.seqState = .check) :
    step s = .next (seqCheck s.inputTaken) := by
  rw [step_sequencer h, sequencer, State.inputTaken_regs, hq]

theorem step_load {s : State} (h : s.nextInput = .sequencer) (hq : s.regs.seqState = .load) :
    step s = .next (seqLoad s.inputTaken) := by
  rw [step_sequencer h, sequencer, State.inputTaken_regs, hq]

theorem step_advance {s : State} (h : s.nextInput = .sequencer) (hq : s.regs.seqState = .sleep)
    (hz : s.regs.sleepCnt = 0) : step s = .next (seqAdvance s.inputTaken) := by
  rw [step_sequencer h, sequencer, State.inputTaken_regs, hq]
  exact congrArg _ (if_pos hz)

/-- Settles O51: the answer of `transition` is a next state for every input, because that of `exec` is one. -/
theorem everyStepGoesOn : Obligations.EveryStepGoesOn := by
  unfold Obligations.EveryStepGoesOn
  intro s
  cases hin : s.nextInput with
  | command w withdrawn =>
    cases hw : decode w with
    | error e => exact ⟨_, step_of_illegal hin hw⟩
    | ok i =>
      by_cases hk : withdrawn = true ∧ classOf i = .cfg
      · obtain ⟨rfl, hcfg⟩ := hk
        exact ⟨_, step_of_withdrawn hin hw hcfg⟩
      · have granted : withdrawn = false ∨ classOf i ≠ .cfg := by
          cases withdrawn
          · exact .inl rfl
          · exact .inr fun hcfg => hk ⟨rfl, hcfg⟩
        obtain ⟨t, ht⟩ := exec_next i s.inputTaken
        exact ⟨t, (step_of_legal hin hw granted).trans ht⟩
  | tick => exact ⟨_, step_tick hin⟩
  | sequencer => exact ⟨_, step_sequencer hin⟩
  | hostStore a b => exact ⟨_, by rw [step, hin, transition]⟩
  | attach => exact ⟨_, step_attach hin⟩

/-- Settles O47: attach is one commit of the reset values. -/
theorem attachIsReset : Obligations.AttachIsReset := by
  unfold Obligations.AttachIsReset
  intro s hin
  exact step_attach hin

/-! ### The tick and the cursor -/

/-- Settles O42: the two cases of the tick. -/
theorem tickCountsOnlyTheSleep : Obligations.TickCountsOnlyTheSleep := by
  unfold Obligations.TickCountsOnlyTheSleep
  intro s hin
  rw [step_tick hin]
  rcases tick_cases s.inputTaken with ⟨hq, hz, htick⟩ | ⟨hnot, htick⟩
  · refine ⟨fun _ hpos => ⟨s.regs.sleepCnt - 1, by bv_omega, by rw [htick]; rfl⟩, fun h => ?_⟩
    rcases h with h | h
    · exact absurd hq h
    · exact absurd h hz
  · refine ⟨fun hq hpos => absurd ⟨hq, ?_⟩ hnot, fun _ => by rw [htick]; rfl⟩
    intro hz
    have hz : s.regs.sleepCnt = 0 := hz
    simp [hz] at hpos

/-- Settles O43: the sample slept on is one of the buffer, so that its number plus 1 does not wrap. -/
theorem seqAdvanceMovesTheCursor : Obligations.SeqAdvanceMovesTheCursor := by
  unfold Obligations.SeqAdvanceMovesTheCursor
  intro s hinv hin hq hz
  have hbuffer := hinv.sleeping hq
  exact ⟨s.regs.cursor + 1, by bv_omega, step_advance hin hq hz⟩

/-- Settles O44: the two cases of `sequencer_cases` in which the sequencer does nothing. -/
theorem sequencerTurnWithNothingEnabled : Obligations.SequencerTurnWithNothingEnabled := by
  unfold Obligations.SequencerTurnWithNothingEnabled
  rintro s hin (hq | ⟨hq, hz⟩)
  · rw [step_sequencer hin, sequencer, State.inputTaken_regs, hq]
    rfl
  · rw [step_sequencer hin, sequencer, State.inputTaken_regs, hq]
    exact congrArg _ (if_neg hz)

/-! ### seq_check and seq_exit -/

/-- What is left where the operation whose accesses have the events `es` ends with one more event. -/
theorem State.completed_eq {s : State} {es : List Event} {r : Regs} {e : Event} {n : Nat} (hn : es.length = n) :
    ((s.issued es).commit fun _ => r).emit e = { s with
      regs := r
      answers := s.answers.drop n
      answerNo := s.answerNo + n
      trace := s.trace ++ (es ++ [e]) } := by
  subst hn
  simp [State.issued, State.commit, State.emit]

/-- Taking the input changes nothing that a plan looks at. -/
theorem Plan.Stops.inputTaken {p : Plan} {s : State} {es : List Event} {r : Regs} (h : p.Stops s es r) :
    p.Stops s.inputTaken es r := by
  cases h with
  | muxRead hp hm hf => exact .muxRead hp hm hf
  | muxWrite hp hm v hd hf => exact Plan.Stops.muxWrite (s := s.inputTaken) hp hm v hd hf
  | access before a left hl ha hf => exact .access before a left hl ha hf

/-- Settles O37: the case of `seqCheck_cases` in which the session goes on. -/
theorem seqCheckGoesOn : Obligations.SeqCheckGoesOn := by
  unfold Obligations.SeqCheckGoesOn
  intro s hin hq herr hactive hcursor
  rw [step_check hin hq]
  rcases seqCheck_cases s.inputTaken with ⟨hexit, -⟩ | ⟨-, -, -, hgo⟩
  · rcases hexit with h | h | h
    · exact absurd herr h
    · exact absurd (hactive.symm.trans h) (by simp)
    · exact absurd h hcursor
  · rw [hgo]
    rfl

/-- The session's cursor is not what enable_mux saves. -/
@[simp] theorem Plan.muxRegs_cursor (p : Plan) (s : State) : (p.muxRegs s).cursor = s.regs.cursor := by
  rcases p.muxRegs_cases s with h | ⟨v, -, -, h⟩ <;> simp [h]

/-- An exit whose op_turn_off completes (R211). -/
theorem seqExit_accepts {s : State} (ha : s.accepts (muxAnswers s + 1)) :
    seqExit s = ((s.issued ((flagsPlan s.regs.flags.stop).events s)).commit fun _ =>
      ((flagsPlan s.regs.flags.stop).regs s).endSession).emit
        (.response ⟨0x10, .ofError s.regs.pbErr, s.regs.cursor⟩) := by
  have hrun := Plan.run_accepts (p := flagsPlan s.regs.flags.stop) ha
  have hcursor : ((flagsPlan s.regs.flags.stop).regs s).cursor = s.regs.cursor :=
    (flagsPlan s.regs.flags.stop).muxRegs_cursor s
  simp only [seqExit, opTurnOff_eq_run, hrun, Result.state_ok, Result.error_ok, State.commit_commit, respond,
    State.commit_regs, Regs.endSession_cursor, hcursor]
  cases s.regs.pbErr <;> rfl

/-- An exit whose op_turn_off stops: the session ends all the same, and an error recorded before is the one answered. -/
theorem seqExit_stops {s : State} {es : List Event} {r : Regs} (h : (flagsPlan s.regs.flags.stop).Stops s es r) :
    seqExit s = ((s.issued es).commit fun _ => r.endSession).emit
      (.response ⟨0x10, .error (s.regs.pbErr.getD .ioError), s.regs.cursor⟩) := by
  have hcursor : r.cursor = s.regs.cursor := by
    rcases h.regs with rfl | ⟨v, -, -, rfl⟩ <;> rfl
  simp only [seqExit, opTurnOff_eq_run, Plan.run_stops h, Result.state_raised, Result.error_raised,
    State.commit_commit, respond, State.commit_regs, Regs.endSession_cursor, hcursor]
  cases s.regs.pbErr <;> rfl

/-- The step that ends a session is an exit. -/
theorem step_exit {s : State} (hin : s.nextInput = .sequencer) (hq : s.regs.seqState = .check)
    (hexit : s.regs.pbErr ≠ none ∨ s.regs.active = false ∨ s.regs.cursor = s.regs.bufLen) :
    step s = .next (seqExit s.inputTaken) := by
  rw [step_check hin hq, seqCheck]
  exact congrArg _ (if_pos hexit)

/-- Settles O38: the exit of an op_turn_off that completes. -/
theorem seqExitEndsTheSession : Obligations.SeqExitEndsTheSession := by
  unfold Obligations.SeqExitEndsTheSession
  intro s st hin hq hexit hok herr ha
  have hst : st = .ofError s.regs.pbErr := by
    cases hp : s.regs.pbErr with
    | none => exact hok hp
    | some e => exact herr e hp
  have hlen := Plan.events_length (p := flagsPlan s.inputTaken.regs.flags.stop) (s := s.inputTaken) ha
  rw [step_exit hin hq hexit, seqExit_accepts (s := s.inputTaken) ha, State.completed_eq hlen, hst, List.append_assoc]
  simp only [Plan.events, List.append_assoc]
  rfl

/-- The step of an exit whose op_turn_off stops. -/
theorem step_exit_stops {s : State} {e : ErrorKind} {es : List Event} {r : Regs} (hin : s.nextInput = .sequencer)
    (hq : s.regs.seqState = .check)
    (hexit : s.regs.pbErr ≠ none ∨ s.regs.active = false ∨ s.regs.cursor = s.regs.bufLen)
    (he : s.regs.pbErr.getD .ioError = e) (h : (flagsPlan s.regs.flags.stop).Stops s es r) :
    step s = .next (failedExit s es.length r e es) := by
  subst he
  rw [step_exit hin hq hexit, seqExit_stops (s := s.inputTaken) h.inputTaken]
  rfl

/-- Settles O39: the three places at which op_turn_off can stop. -/
theorem failingExitStillEndsTheSession : Obligations.FailingExitStillEndsTheSession := by
  unfold Obligations.FailingExitStillEndsTheSession
  intro s e hin hq hexit hio herr
  have he : s.regs.pbErr.getD .ioError = e := by
    cases hp : s.regs.pbErr with
    | none => exact (hio hp).symm
    | some e' => exact (herr e' hp).symm
  refine ⟨fun ha hf => ?_, fun hm hf => ?_, fun hm v hd hf => ?_⟩
  · have hlen := (enableMux_accepts ha).1
    have hstep := step_exit_stops hin hq hexit he
      (.access [] (.timer .ctrl (ctrlWord s.regs.flags.stop)) [] rfl ha hf)
    simpa [Plan.muxEvents, flagsPlan, hlen, Access.event, Plan.muxRegs, Flags.stop] using hstep
  · exact step_exit_stops hin hq hexit he (.muxRead rfl hm hf)
  · exact step_exit_stops hin hq hexit he (.muxWrite rfl hm v hd hf)

end Sys2Proof.Machine
end

section
/-! seq_load (spec/42_playback_engine.md R212): the sample read, then the plan of the frequency, then the plan of the duty
cycle on what the first leaves, and how each of them can stop. -/

namespace Sys2Proof.Machine

/-! ### The parts of a seq_load -/

/-- `s` after the read of the next sample (R71). -/
def State.sampleRead (s : State) : State :=
  s.emit (.memRead s.regs.sampleAddr (s.mem.read s.regs.sampleAddr.toNat))

/-- The duty cycle of the next sample (R130). -/
def State.sampleDuty (s : State) : Int := dutyFromSample (s.mem.read s.regs.sampleAddr.toNat)

/-- The frequency that BASE_CLOCK clamps to (R121, R212). -/
def State.baseFreq (s : State) : Int := clampFreq s.platform s.platform.baseClock.toInt

/-- The plan of the frequency (R212). -/
def State.tuning (s : State) : Plan := frequencyPlan s s.baseFreq

/-- `s` after the sample read and a plan of the frequency that completes. -/
def State.tuned (s : State) : State :=
  (s.sampleRead.issued (s.tuning.events s)).commit fun _ => s.tuning.regs s

theorem State.sampleDuty_range (s : State) : 0 ≤ s.sampleDuty ∧ s.sampleDuty ≤ 100 := by
  have hrange := sampleDutyRange.1 (s.mem.read s.regs.sampleAddr.toNat)
  unfold State.sampleDuty
  omega

/-- The sample read changes nothing that a plan looks at. -/
theorem Plan.Stops.sampleRead {p : Plan} {s : State} {es : List Event} {r : Regs} (h : p.Stops s es r) :
    p.Stops s.sampleRead es r := by
  cases h with
  | muxRead hp hm hf => exact .muxRead hp hm hf
  | muxWrite hp hm v hd hf => exact Plan.Stops.muxWrite (s := s.sampleRead) hp hm v hd hf
  | access before a left hl ha hf => exact .access before a left hl ha hf

/-- The whole seq_load, with its two operations named. -/
theorem seqLoad_eq (s : State) : seqLoad s =
    match (opConfigureFrequency s.platform.baseClock.toInt s.sampleRead).andThen fun _ t =>
      opSetDutyCycle s.sampleDuty t with
    | .ok _ t => t.commit Regs.enterSleep
    | .raised e t => t.commit (Regs.failLoad e) := by
  rfl

/-- A BASE_CLOCK that clamps to 0 fails before any register access. -/
theorem seqLoad_baseFreq_zero {s : State} (hf : s.baseFreq = 0) :
    seqLoad s = s.sampleRead.commit (Regs.failLoad .configError) := by
  have hop : opConfigureFrequency s.platform.baseClock.toInt s.sampleRead = .raised .configError s.sampleRead :=
    opConfigureFrequency_zero _ hf
  rw [seqLoad_eq, hop]
  rfl

/-- A plan of the frequency that stops. -/
theorem seqLoad_tuning_stops {s : State} {es : List Event} {r : Regs} (hf : s.baseFreq ≠ 0) (h : s.tuning.Stops s es r) :
    seqLoad s = (s.sampleRead.issued es).commit fun _ => r.failLoad .ioError := by
  have hop : opConfigureFrequency s.platform.baseClock.toInt s.sampleRead = s.tuning.run s.sampleRead :=
    opConfigureFrequency_eq_run hf
  rw [seqLoad_eq, hop, Plan.run_stops h.sampleRead]
  rfl

/-- A plan of the frequency that completes: the duty cycle decides. -/
theorem seqLoad_tuned {s : State} (hf : s.baseFreq ≠ 0) (ha : s.accepts (muxAnswers s + 2)) :
    seqLoad s = match opSetDutyCycle s.sampleDuty s.tuned with
      | .ok _ t => t.commit Regs.enterSleep
      | .raised e t => t.commit (Regs.failLoad e) := by
  have hop : opConfigureFrequency s.platform.baseClock.toInt s.sampleRead = s.tuning.run s.sampleRead :=
    opConfigureFrequency_eq_run hf
  have hrun : s.tuning.run s.sampleRead = .ok () s.tuned := Plan.run_accepts (p := s.tuning) (s := s.sampleRead) ha
  rw [seqLoad_eq, hop, hrun]
  rfl

/-- The plan of the duty cycle on the tuned state. -/
def State.playing (s : State) : Plan := dutyPlan s.tuned s.sampleDuty

/-- Once the frequency is committed the duty cycle can fail its precondition in one way (R157). -/
theorem opSetDutyCycle_tuned_zeroCounts {s : State} (hd : s.sampleDuty ≠ 0)
    (hr : s.tuned.regs.reloadValue = 0xFFFFFFFE) :
    opSetDutyCycle s.sampleDuty s.tuned = .raised .configError s.tuned := by
  have hrange := s.sampleDuty_range
  have hn := (numCounts_eq_zero_iff _).mpr hr
  have hc : s.tuned.regs.configured = true := rfl
  rcases opSetDutyCycle_outcome s.sampleDuty s.tuned hd with
    ⟨hbad, -⟩ | ⟨-, -, hc', -⟩ | ⟨-, -, -, -, hop⟩ | ⟨-, -, -, hn', -⟩
  · omega
  · rw [hc] at hc'
    cases hc'
  · exact hop
  · exact absurd hn hn'

theorem opSetDutyCycle_tuned_eq_run {s : State} (hr : s.sampleDuty = 0 ∨ s.tuned.regs.reloadValue ≠ 0xFFFFFFFE) :
    opSetDutyCycle s.sampleDuty s.tuned = s.playing.run s.tuned := by
  obtain ⟨h0, h100⟩ := s.sampleDuty_range
  refine opSetDutyCycle_eq_run h0 h100 (fun _ => rfl) fun hd => ?_
  rw [ne_eq, numCounts_eq_zero_iff]
  exact hr.resolve_left hd

/-- num_counts 0 with a nonzero duty cycle fails after the frequency has been committed. -/
theorem seqLoad_zeroCounts {s : State} (hf : s.baseFreq ≠ 0) (hd : s.sampleDuty ≠ 0)
    (hr : s.tuned.regs.reloadValue = 0xFFFFFFFE) (ha : s.accepts (muxAnswers s + 2)) :
    seqLoad s = s.tuned.commit (Regs.failLoad .configError) := by
  rw [seqLoad_tuned hf ha, opSetDutyCycle_tuned_zeroCounts hd hr]

/-- A plan of the duty cycle that stops. -/
theorem seqLoad_playing_stops {s : State} {es : List Event} {r : Regs} (hf : s.baseFreq ≠ 0)
    (hr : s.sampleDuty = 0 ∨ s.tuned.regs.reloadValue ≠ 0xFFFFFFFE) (ha : s.accepts (muxAnswers s + 2))
    (h : s.playing.Stops s.tuned es r) :
    seqLoad s = (s.tuned.issued es).commit fun _ => r.failLoad .ioError := by
  rw [seqLoad_tuned hf ha, opSetDutyCycle_tuned_eq_run hr, Plan.run_stops h]
  rfl

/-- A seq_load that completes. -/
theorem seqLoad_plays {s : State} (hf : s.baseFreq ≠ 0)
    (hr : s.sampleDuty = 0 ∨ s.tuned.regs.reloadValue ≠ 0xFFFFFFFE) (ha : s.accepts (muxAnswers s + 2))
    (h : s.tuned.accepts (s.playing.answers s.tuned)) :
    seqLoad s = (s.tuned.issued (s.playing.events s.tuned)).commit fun _ => (s.playing.regs s.tuned).enterSleep := by
  rw [seqLoad_tuned hf ha, opSetDutyCycle_tuned_eq_run hr, Plan.run_accepts h]
  rfl

/-! ### The tuned state -/

section
variable {s : State} (ha : s.accepts (muxAnswers s + 2))
include ha

theorem tuning_events_length : (s.tuning.events s).length = muxAnswers s + 2 :=
  Plan.events_length (p := s.tuning) ha

theorem tuned_answer (k : Nat) : s.tuned.answer k = s.answer (muxAnswers s + 2 + k) := by
  rw [← tuning_events_length ha]
  exact State.issued_answer s.sampleRead _ k

theorem tuned_accepts {n : Nat} (h : s.accepts (muxAnswers s + 2 + n)) : s.tuned.accepts n := by
  intro k hk
  rw [tuned_answer ha]
  exact h _ (Nat.add_lt_add_left hk _)

theorem tuned_muxSaved : s.tuned.regs.muxSaved = true :=
  muxRegs_muxSaved (s := s) (State.accepts_mono ha (Nat.le_add_right _ 2))

/-- The duty cycle finds the mux saved, so it makes its own writes only. -/
theorem playing_muxAnswers (p : Plan) : p.muxAnswers s.tuned = 0 := by
  simp [Plan.muxAnswers, muxAnswers, tuned_muxSaved ha]

theorem playing_muxEvents (p : Plan) : p.muxEvents s.tuned = [] := by
  simp [Plan.muxEvents, muxEvents, tuned_muxSaved ha]

theorem playing_muxRegs (p : Plan) : p.muxRegs s.tuned = s.tuned.regs := by
  simp [Plan.muxRegs, muxRegs, tuned_muxSaved ha]

end

/-! ### The step of a seq_load -/

/-- The step of a seq_load that fails after the accesses with the events `es`. -/
theorem failedLoad_eq {s : State} {es : List Event} {n : Nat} (hn : es.length = n) (r : Regs) (e : ErrorKind) :
    (s.inputTaken.sampleRead.issued es).commit (fun _ => r.failLoad e) = failedLoad s n r e es := by
  subst hn
  simp [failedLoad, State.sampleRead, State.issued, State.commit, State.emit, State.inputTaken, Regs.failLoad,
    Regs.sampleAddr]

section
variable {s : State} (hin : s.nextInput = .sequencer) (hq : s.regs.seqState = .load)
include hin hq

/-- A plan of the frequency that stops commits nothing but a completed mux save. -/
theorem step_tuning_stops {es : List Event} {r : Regs} {n : Nat} (hf : s.baseFreq ≠ 0) (h : s.tuning.Stops s es r)
    (hn : es.length = n) : step s = .next (failedLoad s n r .ioError es) := by
  rw [step_load hin hq, seqLoad_tuning_stops (s := s.inputTaken) hf h.inputTaken]
  exact congrArg _ (failedLoad_eq hn r .ioError)

/-- num_counts 0 with a nonzero duty cycle. -/
theorem step_zeroCounts (hf : s.baseFreq ≠ 0) (hd : s.sampleDuty ≠ 0)
    (hr : s.inputTaken.tuned.regs.reloadValue = 0xFFFFFFFE) (ha : s.accepts (muxAnswers s + 2)) :
    step s = .next (failedLoad s (muxAnswers s + 2) s.inputTaken.tuned.regs .configError (s.tuning.events s)) := by
  rw [step_load hin hq, seqLoad_zeroCounts (s := s.inputTaken) hf hd hr ha]
  exact congrArg _ (failedLoad_eq (s := s) (tuning_events_length ha) s.inputTaken.tuned.regs .configError)

/-- A write of the duty cycle that fails, after the frequency has been committed. -/
theorem step_playing_rejected (hf : s.baseFreq ≠ 0)
    (hr : s.sampleDuty = 0 ∨ s.inputTaken.tuned.regs.reloadValue ≠ 0xFFFFFFFE) {before left : List Access} {a : Access}
    (hl : s.inputTaken.playing.accesses = before ++ a :: left)
    (ha : s.accepts (muxAnswers s + 2 + before.length)) (hfail : s.answer (muxAnswers s + 2 + before.length) = .failed) :
    step s = .next (failedLoad s (muxAnswers s + 2 + (before.length + 1)) s.inputTaken.tuned.regs .ioError
      (s.tuning.events s ++ (before.map (Access.event s.platform true) ++ [a.event s.platform false]))) := by
  have ha2 : s.inputTaken.accepts (muxAnswers s + 2) := State.accepts_mono ha (Nat.le_add_right _ _)
  have hnone := playing_muxAnswers ha2 s.inputTaken.playing
  have stops := Plan.Stops.access (p := s.inputTaken.playing) (s := s.inputTaken.tuned) before a left hl
    (by rw [hnone, Nat.zero_add]; exact tuned_accepts ha2 ha)
    (by rw [hnone, Nat.zero_add, tuned_answer ha2]; exact hfail)
  rw [playing_muxEvents ha2, playing_muxRegs ha2, List.nil_append] at stops
  rw [step_load hin hq, seqLoad_playing_stops (s := s.inputTaken) hf hr ha2 stops]
  have hlen := tuning_events_length (s := s) (State.accepts_mono ha (Nat.le_add_right _ _))
  refine congrArg _ (Eq.trans ?_ (failedLoad_eq (es := s.tuning.events s ++ _) ?_ _ .ioError))
  · simp only [State.tuned, State.commit_issued, State.issued_issued, State.commit_commit]
    rfl
  · simp [hlen]

/-- A seq_load that completes, with its whole effect and frame. -/
theorem step_plays (hf : s.baseFreq ≠ 0)
    (hr : s.sampleDuty = 0 ∨ s.inputTaken.tuned.regs.reloadValue ≠ 0xFFFFFFFE)
    (ha : s.accepts (muxAnswers s + 2 + s.inputTaken.playing.accesses.length)) :
    step s = .next { s with
      inputs := s.inputs.drop 1
      inputNo := s.inputNo + 1
      regs := (s.inputTaken.playing.commit s.inputTaken.tuned.regs).enterSleep
      answers := s.answers.drop (muxAnswers s + 2 + s.inputTaken.playing.accesses.length)
      answerNo := s.answerNo + (muxAnswers s + 2 + s.inputTaken.playing.accesses.length)
      trace := s.trace ++ [.memRead s.regs.sampleAddr (s.mem.read s.regs.sampleAddr.toNat)] ++ s.tuning.events s ++
        s.inputTaken.playing.accesses.map (Access.event s.platform true) } := by
  have ha2 : s.inputTaken.accepts (muxAnswers s + 2) := State.accepts_mono ha (Nat.le_add_right _ _)
  have hnone := playing_muxAnswers ha2 s.inputTaken.playing
  have hplays : s.inputTaken.tuned.accepts (s.inputTaken.playing.answers s.inputTaken.tuned) := by
    rw [Plan.answers, hnone, Nat.zero_add]
    exact tuned_accepts ha2 ha
  have hlen := tuning_events_length (s := s) (State.accepts_mono ha (Nat.le_add_right _ _))
  rw [step_load hin hq, seqLoad_plays (s := s.inputTaken) hf hr ha2 hplays, Plan.events, Plan.regs,
    playing_muxEvents ha2, playing_muxRegs ha2, List.nil_append]
  refine congrArg _ (Eq.trans (b := (s.inputTaken.sampleRead.issued (s.tuning.events s ++
    s.inputTaken.playing.accesses.map (Access.event s.platform true))).commit fun _ =>
      (s.inputTaken.playing.commit s.inputTaken.tuned.regs).enterSleep) ?_ ?_)
  · simp only [State.tuned, State.commit_issued, State.issued_issued, State.commit_commit]
    rfl
  · simp [State.issued, State.commit, State.sampleRead, State.emit, State.inputTaken, Regs.sampleAddr, hlen]

end

theorem tuned_flags (s : State) : s.tuned.regs.flags = s.regs.flags := muxRegs_flags s

/-- A sample of duty cycle 0 turns the channel OFF. -/
theorem playing_of_duty_zero {s : State} (hd : s.sampleDuty = 0) : s.playing = flagsPlan s.regs.flags.stop := by
  rw [State.playing, hd, ← tuned_flags s]
  rfl

/-- A sample of another duty cycle is played by the three writes of R157. -/
theorem playing_of_match {s : State} {m : Int} (hm : computeMatch s.sampleDuty s.tuned.regs.reloadValue.toNat
    (numCounts s.tuned.regs.reloadValue.toNat) = some m) :
    s.playing = ⟨true, [.timer .ctrl (ctrlWord s.regs.flags.stop), .timer .matchReg (asU32 m),
      .timer .ctrl (ctrlWord s.regs.flags.start)], Regs.commitDuty (asU32 m)⟩ := by
  rw [State.playing, dutyPlan_some hm, tuned_flags]

/-- Every duty cycle begins with the channel forced OFF. -/
theorem playing_begins (s : State) :
    ∃ left, s.playing.accesses = .timer .ctrl (ctrlWord s.regs.flags.stop) :: left := by
  rw [State.playing, dutyPlan, ← tuned_flags s]
  split <;> exact ⟨_, rfl⟩

theorem muxRegs_interval (s : State) : (muxRegs s).interval = s.regs.interval := by
  unfold muxRegs
  split
  · rfl
  · split <;> rfl

/-- The events of the frequency's plan, after those of a trace. -/
theorem tuning_events_append (s : State) (tr : List Event) :
    tr ++ s.tuning.events s = tr ++ muxEvents s ++ s.tuning.accesses.map (Access.event s.platform true) :=
  (List.append_assoc _ _ _).symm

/-- Settles O40: the two forms of the duty cycle's plan, with every access accepted. -/
theorem seqLoadPlaysOneSample : Obligations.SeqLoadPlaysOneSample := by
  unfold Obligations.SeqLoadPlaysOneSample
  intro s d r duty flags mtch hin hq hf hr hd hduty ha
  subst hr hd
  rcases hduty with ⟨h0, rfl, rfl, rfl⟩ | ⟨-, hr, rfl, ⟨m, hm, rfl⟩, rfl⟩
  · have hplay : s.inputTaken.playing = flagsPlan s.regs.flags.stop := playing_of_duty_zero (s := s.inputTaken) h0
    rw [step_plays hin hq hf (.inl h0) (by rw [hplay]; exact ha), hplay, tuning_events_append, ← muxRegs_interval s,
      ← muxRegs_matchValue s]
    rfl
  · have hplay : s.inputTaken.playing = ⟨true, [.timer .ctrl (ctrlWord s.regs.flags.stop), .timer .matchReg (asU32 m),
        .timer .ctrl (ctrlWord s.regs.flags.start)], Regs.commitDuty (asU32 m)⟩ := playing_of_match (s := s.inputTaken) hm
    rw [step_plays hin hq hf (.inr hr) (by rw [hplay]; exact ha), hplay, tuning_events_append, ← muxRegs_interval s,
      ← muxRegs_flags s]
    rfl

/-- Settles O41: the ways in which the two plans can stop. -/
theorem seqLoadRecordsItsError : Obligations.SeqLoadRecordsItsError := by
  unfold Obligations.SeqLoadRecordsItsError
  intro s f d r hin hq hfreq hr hd k tuned tuning off on
  subst hfreq hr hd
  refine ⟨fun hf => ?_, fun hf hm hfail => ?_, fun hf hm v hv hfail => ?_, fun hf ha hfail => ?_,
    fun hf ha hfail => ?_, fun hf hd hr ha => ?_, fun hf hr ha hfail => ?_, fun hf hd hr m hm =>
      ⟨fun ha hfail => ?_, fun ha hfail => ?_⟩⟩
  · rw [step_load hin hq, seqLoad_baseFreq_zero (s := s.inputTaken) hf]
    have hload := failedLoad_eq (s := s) (es := []) rfl s.regs .configError
    rw [State.issued_nil] at hload
    exact congrArg _ hload
  · exact step_tuning_stops hin hq hf (.muxRead rfl hm hfail) rfl
  · exact step_tuning_stops hin hq hf (.muxWrite rfl hm v hv hfail) rfl
  · have hlen := (enableMux_accepts ha).1
    have stops := Plan.Stops.access (p := s.tuning) (s := s) [] _ _ rfl ha hfail
    exact step_tuning_stops hin hq hf stops (by simp [hlen, k])
  · have hlen := (enableMux_accepts (State.accepts_mono ha (Nat.le_succ _))).1
    have stops := Plan.Stops.access (p := s.tuning) (s := s) [_] _ _ rfl ha hfail
    exact step_tuning_stops hin hq hf stops (by simp [hlen, k])
  · exact step_zeroCounts hin hq hf hd hr ha
  · obtain ⟨left, hl⟩ := playing_begins s.inputTaken
    exact step_playing_rejected hin hq hf hr (before := []) hl ha hfail
  · have hplay := playing_of_match (s := s.inputTaken) hm
    exact step_playing_rejected hin hq hf (.inr hr) (before := [_]) (by rw [hplay]; rfl) ha hfail
  · have hplay := playing_of_match (s := s.inputTaken) hm
    exact step_playing_rejected hin hq hf (.inr hr) (before := [_, _]) (by rw [hplay]; rfl) ha hfail

end Sys2Proof.Machine
end

section
/-! What a step does to the block's registers, said once: the commit blocks of the controller (R13), each with what holds
where it is executed, and around them the session's own. -/

namespace Sys2Proof.Machine

/-! ### The controller's commit blocks -/

/-- Who may change the controller: a command that the prelude lets pass (R151), or the sequencer in a session. -/
def Regs.Granted (r : Regs) : Prop := r.detached = false ∨ r.seqState ≠ .idle

/-- What R41 item 9 says of the flags. -/
def Flags.PrescaleOk (mode : Config.PrescaleMode) (f : Flags) : Prop :=
  mode = .merge → f.autoreload = true ∧ (f.prescaleEnable = false → f.prescaleRatio = 0)

/-- One commit block of the controller, with what holds of the registers that it finds. -/
inductive Change (p : Config.Platform) (r : Regs) : Regs → Prop where
  | saveMux (v : Half) (hm : r.muxSaved = false) : Change p r (r.saveMux v)
  | frequency (f : Int) (hf : f ≠ 0) (hreq : ∃ req, f = clampFreq p req) (hm : r.muxSaved = true) :
      Change p r (r.commitFrequency (asU32 (computeReload f p.inputFreq)) (asU32 f))
  | duty (m : Word) (hg : r.Granted) (hc : r.configured = true) : Change p r (r.commitDuty m)
  | flags (f : Flags) (hg : r.Granted)
      (hs : f.started = true → r.configured = true ∨ r.flags.started = true)
      (hp : r.flags.PrescaleOk p.prescaleMode → f.PrescaleOk p.prescaleMode) : Change p r (r.setFlags f)
  | clearActive : Change p r r.clearActive
  | detach (hb : r.busy = false) : Change p r r.commitDetach

/-- Any number of the controller's commit blocks, one after the other. -/
abbrev Changes (p : Config.Platform) : Regs → Regs → Prop := Relation.ReflTransGen (Change p)

theorem Change.changes {p : Config.Platform} {r r' : Regs} (h : Change p r r') : Changes p r r' := .single h

/-- The registers of the session are not the controller's. -/
structure Regs.SameSession (r r' : Regs) : Prop where
  cursor : r'.cursor = r.cursor
  bufBase : r'.bufBase = r.bufBase
  bufLen : r'.bufLen = r.bufLen
  interval : r'.interval = r.interval
  seqState : r'.seqState = r.seqState
  sleepCnt : r'.sleepCnt = r.sleepCnt
  pbErr : r'.pbErr = r.pbErr

theorem Regs.SameSession.trans {a b c : Regs} (h : a.SameSession b) (h' : b.SameSession c) : a.SameSession c where
  cursor := h'.cursor.trans h.cursor
  bufBase := h'.bufBase.trans h.bufBase
  bufLen := h'.bufLen.trans h.bufLen
  interval := h'.interval.trans h.interval
  seqState := h'.seqState.trans h.seqState
  sleepCnt := h'.sleepCnt.trans h.sleepCnt
  pbErr := h'.pbErr.trans h.pbErr

theorem Change.sameSession {p : Config.Platform} {r r' : Regs} (h : Change p r r') : r.SameSession r' := by
  cases h <;> exact ⟨rfl, rfl, rfl, rfl, rfl, rfl, rfl⟩

theorem Changes.sameSession {p : Config.Platform} {r r' : Regs} (h : Changes p r r') : r.SameSession r' := by
  induction h with
  | refl => exact ⟨rfl, rfl, rfl, rfl, rfl, rfl, rfl⟩
  | tail _ hc ih => exact ih.trans hc.sameSession

/-- The controller ends a session's activity and never begins one. -/
theorem Changes.active {p : Config.Platform} {r r' : Regs} (h : Changes p r r') (ha : r.active = false) :
    r'.active = false := by
  induction h with
  | refl => exact ha
  | tail _ hc ih =>
    cases hc with
    | clearActive => rfl
    | _ => exact ih

/-- The flags with another started flag keep what R41 item 9 says. -/
theorem Flags.PrescaleOk.stop {mode : Config.PrescaleMode} {f : Flags} (h : f.PrescaleOk mode) :
    f.stop.PrescaleOk mode := h

theorem Flags.PrescaleOk.start {mode : Config.PrescaleMode} {f : Flags} (h : f.PrescaleOk mode) :
    f.start.PrescaleOk mode := h

theorem Flags.PrescaleOk.setPolarity {mode : Config.PrescaleMode} {f : Flags} (h : f.PrescaleOk mode) (b : Bool) :
    (f.setPolarity b).PrescaleOk mode := h

/-- SETPRE's flags: a divisor below 2 has the ratio 0 (R165, R166). -/
theorem Flags.PrescaleOk.prescaleApply {mode : Config.PrescaleMode} {f : Flags} {d : Int} (h : f.PrescaleOk mode) :
    (prescaleApply mode f (decide (2 ≤ d)) (BitVec.ofNat 3 (log2Floor d.toNat))).PrescaleOk mode := by
  rintro rfl
  refine ⟨(h rfl).1, fun hd => ?_⟩
  have hsmall : ¬ 2 ≤ d := by simpa [Machine.prescaleApply] using hd
  have hratio : log2Floor d.toNat = 0 := by
    obtain h0 | h1 : d.toNat = 0 ∨ d.toNat = 1 := by omega
    · rw [h0]; rfl
    · rw [h1]; rfl
  simp [Machine.prescaleApply, hratio]

/-! ### What a plan does to the registers -/

theorem Plan.muxRegs_changes (p : Plan) (s : State) : Changes s.platform s.regs (p.muxRegs s) := by
  rcases p.muxRegs_cases s with h | ⟨v, hm, -, h⟩ <;> rw [h]
  exact (Change.saveMux v hm).changes

theorem Plan.Stops.changes {p : Plan} {s : State} {es : List Event} {r : Regs} (h : p.Stops s es r) :
    Changes s.platform s.regs r := by
  rcases h.regs with rfl | ⟨v, hm, -, rfl⟩
  · exact .refl
  · exact (Change.saveMux v hm).changes

/-- A plan that completes: the mux save, and then its commit block. -/
theorem Plan.regs_changes {p : Plan} {s : State} (h : Change s.platform (p.muxRegs s) (p.commit (p.muxRegs s))) :
    Changes s.platform s.regs (p.regs s) :=
  (p.muxRegs_changes s).tail h

@[simp] theorem Plan.muxRegs_flags (p : Plan) (s : State) : (p.muxRegs s).flags = s.regs.flags := by
  rcases p.muxRegs_cases s with h | ⟨v, -, -, h⟩ <;> rw [h]
  rfl

@[simp] theorem Plan.muxRegs_configured (p : Plan) (s : State) : (p.muxRegs s).configured = s.regs.configured := by
  rcases p.muxRegs_cases s with h | ⟨v, -, -, h⟩ <;> rw [h]
  rfl

@[simp] theorem Plan.muxRegs_detached (p : Plan) (s : State) : (p.muxRegs s).detached = s.regs.detached := by
  rcases p.muxRegs_cases s with h | ⟨v, -, -, h⟩ <;> rw [h]
  rfl

theorem Regs.Granted.muxRegs {s : State} (h : s.regs.Granted) (p : Plan) : (p.muxRegs s).Granted := by
  rcases p.muxRegs_cases s with h' | ⟨v, -, -, h'⟩ <;> rw [h'] <;> exact h

/-- A plan that writes the flags only. -/
theorem flagsPlan_changes {s : State} {f : Flags} (hg : s.regs.Granted)
    (hs : f.started = true → s.regs.configured = true ∨ s.regs.flags.started = true)
    (hp : s.regs.flags.PrescaleOk s.platform.prescaleMode → f.PrescaleOk s.platform.prescaleMode) :
    Changes s.platform s.regs ((flagsPlan f).regs s) :=
  Plan.regs_changes (.flags f (hg.muxRegs _) (by simpa using hs) (by simpa using hp))

/-- op_turn_off. -/
theorem stopFlags_changes {s : State} (hg : s.regs.Granted) :
    Changes s.platform s.regs ((flagsPlan s.regs.flags.stop).regs s) :=
  flagsPlan_changes hg (fun h => absurd h (by simp)) Flags.PrescaleOk.stop

/-- op_configure_frequency. -/
theorem frequencyPlan_changes {s : State} {f : Int} (hf : f ≠ 0) (hreq : ∃ req, f = clampFreq s.platform req)
    (ha : s.accepts (muxAnswers s + 2)) : Changes s.platform s.regs ((frequencyPlan s f).regs s) :=
  Plan.regs_changes (.frequency f hf hreq (muxRegs_muxSaved (State.accepts_mono ha (Nat.le_add_right _ 2))))

/-- op_set_duty_cycle, which needs a configured frequency for a nonzero percentage. -/
theorem dutyPlan_changes {s : State} {p : Int} (hg : s.regs.Granted) (hc : p ≠ 0 → s.regs.configured = true) :
    Changes s.platform s.regs ((dutyPlan s p).regs s) := by
  by_cases hp : p = 0
  · subst hp
    exact stopFlags_changes hg
  · have hm := computeMatch_nonzero hp s.regs.reloadValue.toNat (numCounts s.regs.reloadValue.toNat)
    rw [dutyPlan_some hm]
    exact Plan.regs_changes (.duty _ (hg.muxRegs _) (by simpa using hc hp))

/-- PBSTOP and PBSYNC. -/
theorem stopPlan_changes {s : State} (hg : s.regs.Granted) : Changes s.platform s.regs ((stopPlan s).regs s) := by
  unfold stopPlan
  split
  · exact (stopFlags_changes hg).tail .clearActive
  · exact .refl

/-- SETDUTY of a nonzero percentage needs a configured frequency (R157). -/
theorem configured_of_setduty {s : State} {a : Word} (hp : preconditionError s (.setduty a) = none)
    (hz : a.toInt ≠ 0) : s.regs.configured = true := by
  simp only [preconditionError] at hp
  split_ifs at hp with h1 h2
  simpa [hz] using h2

/-- ON needs a configured frequency (R159). -/
theorem configured_of_on {s : State} (hp : preconditionError s .on = none) : s.regs.configured = true := by
  simp only [preconditionError] at hp
  split_ifs at hp with h1
  simpa using h1

/-- Every command that completes, but PBSTART. -/
theorem planOf_changes {s : State} {i : Instr} (hr : refusal s i = none) (hi : ¬ ∃ a b c, i = .pbstart a b c)
    (ha : s.accepts ((planOf s i).answers s)) : Changes s.platform s.regs ((planOf s i).regs s) := by
  obtain ⟨hd, hp⟩ := refusal_eq_none_iff.mp hr
  have hg : s.regs.Granted := .inl hd
  cases i with
  | cfgfreq a =>
    have hf : clampFreq s.platform a.toInt ≠ 0 := by
      intro hf
      simp [preconditionError, hf] at hp
    exact frequencyPlan_changes hf ⟨_, rfl⟩ ha
  | setduty a => exact dutyPlan_changes hg (configured_of_setduty hp)
  | on =>
    exact Plan.regs_changes (.flags _ (hg.muxRegs _) (fun _ => .inl (by simpa using configured_of_on hp))
      (by simpa using Flags.PrescaleOk.start))
  | off => exact stopFlags_changes hg
  | setpol a => exact flagsPlan_changes hg .inr fun h => h.setPolarity _
  | setpre a =>
    refine flagsPlan_changes hg ?_ Flags.PrescaleOk.prescaleApply
    cases s.platform.prescaleMode with
    | merge => exact .inr
    | refClear => exact fun h => absurd h (by simp [prescaleApply])
  | getduty => exact .refl
  | getfreq => exact .refl
  | pbstart a b c => exact absurd ⟨a, b, c, rfl⟩ hi
  | pbstop => exact stopPlan_changes hg
  | pbsync => exact stopPlan_changes hg
  | pbpos => exact .refl
  | detach =>
    have hb : s.regs.busy = false := by
      simp only [preconditionError, ← Regs.busy_iff] at hp
      split_ifs at hp with h
      simpa using h
    exact (Change.detach hb).changes

/-- What a command does to the registers: an accepted PBSTART begins its session, and every other answer is that of the
controller's commit blocks. -/
theorem exec_changes {i : Instr} {s t : State} (h : exec i s = .next t) :
    Changes s.platform s.regs t.regs ∨
    (∃ a b c, i = .pbstart a b c ∧ refusal s i = none ∧ t = s.commit (Regs.startSession a b c)) := by
  rcases exec_cases h with ⟨e, -, rfl⟩ | ⟨hr, ⟨a, b, c, hi, ht⟩ | ⟨hi, ha, v, -, rfl⟩ | ⟨es, r, hs, rfl⟩⟩
  · exact .inl .refl
  · exact .inr ⟨a, b, c, hi, hr, ht⟩
  · exact .inl (planOf_changes hr hi ha)
  · exact .inl hs.changes

/-! ### The sequencer -/

/-- Everything a seq_exit can do: op_turn_off completes or stops, and the session ends. -/
theorem seqExit_cases (s : State) :
    (s.accepts (muxAnswers s + 1) ∧ seqExit s = ((s.issued ((flagsPlan s.regs.flags.stop).events s)).commit fun _ =>
      ((flagsPlan s.regs.flags.stop).regs s).endSession).emit
        (.response ⟨0x10, .ofError s.regs.pbErr, s.regs.cursor⟩)) ∨
    (∃ es r, (flagsPlan s.regs.flags.stop).Stops s es r ∧ seqExit s = ((s.issued es).commit fun _ => r.endSession).emit
      (.response ⟨0x10, .error (s.regs.pbErr.getD .ioError), s.regs.cursor⟩)) := by
  rcases (flagsPlan s.regs.flags.stop).accepts_or_stops s with ha | ⟨es, r, h⟩
  · exact .inl ⟨ha, seqExit_accepts ha⟩
  · exact .inr ⟨es, r, h, seqExit_stops h⟩

/-- Everything a seq_load can do: each of its two plans completes or stops, and each has one precondition (R212). -/
theorem seqLoad_outcome (s : State) :
    (s.baseFreq = 0 ∧ seqLoad s = s.sampleRead.commit (Regs.failLoad .configError)) ∨
    (s.baseFreq ≠ 0 ∧ ∃ es r, s.tuning.Stops s es r ∧
      seqLoad s = (s.sampleRead.issued es).commit fun _ => r.failLoad .ioError) ∨
    (s.baseFreq ≠ 0 ∧ s.accepts (muxAnswers s + 2) ∧
      (seqLoad s = s.tuned.commit (Regs.failLoad .configError) ∨
       (∃ es r, s.playing.Stops s.tuned es r ∧ seqLoad s = (s.tuned.issued es).commit fun _ => r.failLoad .ioError) ∨
       (s.tuned.accepts (s.playing.answers s.tuned) ∧ seqLoad s =
         (s.tuned.issued (s.playing.events s.tuned)).commit fun _ => (s.playing.regs s.tuned).enterSleep))) := by
  by_cases hf : s.baseFreq = 0
  · exact .inl ⟨hf, seqLoad_baseFreq_zero hf⟩
  rcases s.tuning.accepts_or_stops s with ha | ⟨es, r, h⟩
  swap
  · exact .inr (.inl ⟨hf, es, r, h, seqLoad_tuning_stops hf h⟩)
  refine .inr (.inr ⟨hf, ha, ?_⟩)
  by_cases hr : s.sampleDuty = 0 ∨ s.tuned.regs.reloadValue ≠ 0xFFFFFFFE
  · rcases s.playing.accepts_or_stops s.tuned with hplay | ⟨es, r, h⟩
    · exact .inr (.inr ⟨hplay, seqLoad_plays hf hr ha hplay⟩)
    · exact .inr (.inl ⟨es, r, h, seqLoad_playing_stops hf hr ha h⟩)
  · obtain ⟨hd, hr⟩ := not_or.mp hr
    exact .inl (seqLoad_zeroCounts hf hd (not_not.mp hr) ha)

/-- A frequency that seq_load commits. -/
theorem tuned_changes {s : State} (hf : s.baseFreq ≠ 0) (ha : s.accepts (muxAnswers s + 2)) :
    Changes s.platform s.regs s.tuned.regs :=
  frequencyPlan_changes hf ⟨_, rfl⟩ ha

/-- The sequencer's turn, by the internal transition that it takes (R243). -/
inductive Turn (s t : State) : Prop where
  | nothing (hq : s.regs.seqState = .idle ∨ (s.regs.seqState = .sleep ∧ s.regs.sleepCnt ≠ 0)) (hr : t.regs = s.regs)
  | goesOn (hq : s.regs.seqState = .check) (he : s.regs.pbErr = none) (ha : s.regs.active = true)
      (hc : s.regs.cursor ≠ s.regs.bufLen) (hr : t.regs = s.regs.enterLoad)
  | exits (hq : s.regs.seqState = .check) (r : Regs) (hc : Changes s.platform s.regs r) (hr : t.regs = r.endSession)
      (es : List Event) (st : Status) (ht : t.trace = s.trace ++ es ++ [.response ⟨0x10, st, s.regs.cursor⟩])
  | plays (hq : s.regs.seqState = .load) (r : Regs) (hc : Changes s.platform s.regs r) (hr : t.regs = r.enterSleep)
  | fails (hq : s.regs.seqState = .load) (r : Regs) (e : ErrorKind) (hc : Changes s.platform s.regs r)
      (hr : t.regs = r.failLoad e)
  | advances (hq : s.regs.seqState = .sleep) (hz : s.regs.sleepCnt = 0) (hr : t.regs = s.regs.advanceCursor)

theorem seqExit_turn {s : State} (hq : s.regs.seqState = .check) : Turn s (seqExit s) := by
  have hg : s.regs.Granted := .inr (by simp [hq])
  rcases seqExit_cases s with ⟨-, he⟩ | ⟨es, r, h, he⟩ <;> rw [he]
  · exact .exits hq _ (stopFlags_changes hg) rfl _ _ rfl
  · exact .exits hq r h.changes rfl es _ rfl

theorem seqLoad_turn {s : State} (hq : s.regs.seqState = .load) : Turn s (seqLoad s) := by
  rcases seqLoad_outcome s with ⟨-, he⟩ | ⟨-, es, r, h, he⟩ | ⟨hf, ha, he | ⟨es, r, h, he⟩ | ⟨-, he⟩⟩ <;> rw [he]
  · exact .fails hq _ _ .refl rfl
  · exact .fails hq r _ h.changes rfl
  · exact .fails hq _ _ (tuned_changes hf ha) rfl
  · exact .fails hq r _ ((tuned_changes hf ha).trans h.changes) rfl
  · have hg : s.tuned.regs.Granted := .inr (by rw [(tuned_changes hf ha).sameSession.seqState, hq]; simp)
    exact .plays hq _ ((tuned_changes hf ha).trans (dutyPlan_changes hg fun _ => rfl)) rfl

theorem sequencer_turn (s : State) : Turn s (sequencer s) := by
  rcases sequencer_cases s with ⟨hq, he⟩ | ⟨hq, he⟩ | ⟨hq, he⟩ | ⟨hq, hz, he⟩ | ⟨hq, hz, he⟩ <;> rw [he]
  · exact .nothing (.inl hq) rfl
  · rcases seqCheck_cases s with ⟨-, hc⟩ | ⟨he, ha, hc, hgo⟩
    · rw [hc]
      exact seqExit_turn hq
    · rw [hgo]
      exact .goesOn hq he ha hc rfl
  · exact seqLoad_turn hq
  · exact .advances hq hz rfl
  · exact .nothing (.inr ⟨hq, hz⟩) rfl

/-! ### The step -/

/-- What a step does to the registers, by its input. -/
inductive StepRegs (s t : State) : Prop where
  | command (w : CommandWord) (k : Bool) (hin : s.nextInput = .command w k) (hc : Changes s.platform s.regs t.regs)
  | starts (w : CommandWord) (k : Bool) (a b c : Word) (hin : s.nextInput = .command w k)
      (hw : decode w = .ok (.pbstart a b c)) (hf : refusal s (.pbstart a b c) = none)
      (hr : t.regs = s.regs.startSession a b c) (ht : t.trace = s.trace)
  | counts (hin : s.nextInput = .tick) (hq : s.regs.seqState = .sleep) (hz : s.regs.sleepCnt ≠ 0)
      (hr : t.regs = s.regs.countTick)
  | ticks (hin : s.nextInput = .tick) (hn : ¬ (s.regs.seqState = .sleep ∧ s.regs.sleepCnt ≠ 0)) (hr : t.regs = s.regs)
  | sequencer (hin : s.nextInput = .sequencer) (h : Turn s t)
  | stores (a : Word) (b : Byte) (hin : s.nextInput = .hostStore a b) (hr : t.regs = s.regs)
  | attaches (hin : s.nextInput = .attach) (hr : t.regs = Regs.reset)

theorem Turn.of_inputTaken {s t : State} (h : Turn s.inputTaken t) : Turn s t := by
  cases h with
  | nothing hq hr => exact .nothing hq hr
  | goesOn hq he ha hc hr => exact .goesOn hq he ha hc hr
  | exits hq r hc hr es st ht => exact .exits hq r hc hr es st ht
  | plays hq r hc hr => exact .plays hq r hc hr
  | fails hq r e hc hr => exact .fails hq r e hc hr
  | advances hq hz hr => exact .advances hq hz hr

theorem step_regs {s t : State} (h : step s = .next t) : StepRegs s t := by
  rcases step_cases h with ⟨w, k, e, hin, -, rfl⟩ | ⟨w, i, hin, -, -, rfl⟩ | ⟨w, k, i, hin, hw, -, hexec⟩ | ⟨hin, rfl⟩ |
    ⟨hin, rfl⟩ | ⟨a, b, hin, rfl⟩ | ⟨hin, rfl⟩
  · exact .command w k hin .refl
  · exact .command w true hin .refl
  · rcases exec_changes hexec with hc | ⟨a, b, c, rfl, hf, rfl⟩
    · exact .command w k hin hc
    · exact .starts w k a b c hin hw hf rfl rfl
  · rcases tick_cases s.inputTaken with ⟨hq, hz, ht⟩ | ⟨hn, ht⟩ <;> rw [ht]
    · exact .counts hin hq hz rfl
    · exact .ticks hin hn rfl
  · exact .sequencer hin (sequencer_turn s.inputTaken).of_inputTaken
  · exact .stores a b hin rfl
  · exact .attaches hin rfl

end Sys2Proof.Machine
end

section
/-! The invariants of spec/10_state.md R41 at reset and under every step, and so in every reachable state. -/

namespace Sys2Proof.Machine

/-! ### The commit blocks keep the eleven items -/

/-- The frequency and the reload value that op_configure_frequency commits (R41 item 2). -/
theorem committedFrequency {p : Config.Platform} (hp : p.Valid) {f : Int} (hf : f ≠ 0)
    (hreq : ∃ req, f = clampFreq p req) :
    2 ≤ (asU32 f).toNat ∧ (asU32 f).toNat % 2 = 0 ∧ (asU32 f).toNat ≤ p.inputFreq / 2 ∧
      (asU32 (computeReload f p.inputFreq)).toNat = 0xFFFFFFFF - (p.inputFreq / (asU32 f).toNat - 1) := by
  obtain ⟨req, rfl⟩ := hreq
  obtain ⟨-, heven, hpos, hcap, -⟩ := clampedFrequencyIsEvenAndCapped.1 p req hp
  have hmax := hp.input_max
  generalize clampFreq p req = f at *
  obtain ⟨n, rfl⟩ := Int.eq_ofNat_of_zero_le hpos
  have hn : (asU32 n).toNat = n := by
    have h := zext32_asU32 (v := n) (by omega) (by omega)
    unfold zext32 at h
    exact_mod_cast h
  have hmin := hp.input_min
  obtain ⟨-, -, -, -, -, hfits, -⟩ := reloadAndCountsRange.2.1 n p.inputFreq (by omega) (by omega) (by omega) (by omega)
  obtain ⟨hlow, hhigh⟩ := reloadQuotient_range (f := n) (inp := p.inputFreq) (by omega) (by omega)
  rw [computeReload_eq] at hfits ⊢
  unfold zext32 at hfits
  rw [hn]
  refine ⟨by omega, by omega, by omega, ?_⟩
  have hquotient : (p.inputFreq : Int) / (n : Int) = ((p.inputFreq / n : Nat) : Int) := by norm_cast
  rw [hquotient] at hfits hlow hhigh ⊢
  omega

section
variable {p : Config.Platform} {r : Regs} (h : r.InvariantsR41 p)
include h

theorem Regs.Granted.attached (hg : r.Granted) : r.detached = false := by
  rcases hg with hd | hq
  · exact hd
  · exact (h.item5 hq).1

theorem Change.invariants {r' : Regs} (hp : p.Valid) (hc : Change p r r') : r'.InvariantsR41 p := by
  cases hc with
  | saveMux v hm =>
    exact { h with item2 := fun hc => ⟨rfl, (h.item2 hc).2⟩ }
  | frequency f hf hreq hm =>
    obtain ⟨hmin, heven, hmax, hreload⟩ := committedFrequency hp hf hreq
    exact { h with
      item1 := fun hs => ⟨rfl, (h.item1 hs).2⟩
      item2 := fun _ => ⟨hm, hmin, heven, hmax, hreload⟩
      item3 := fun hc => absurd hc (by simp)
      item8 := fun _ => rfl }
  | duty m hg hc =>
    have hd := hg.attached h
    exact { h with
      item1 := fun _ => ⟨hc, hd⟩
      item3 := fun hc' => absurd (hc.symm.trans hc') (by simp)
      item8 := fun _ => hc }
  | flags f hg hs hp =>
    have hd := hg.attached h
    exact { h with
      item1 := fun hs' => ⟨(hs hs').elim id fun hstarted => (h.item1 hstarted).1, hd⟩
      item9 := hp h.item9 }
  | clearActive =>
    exact { h with
      item4 := fun ha => absurd ha (by simp)
      item7 := fun _ => rfl }
  | detach hb =>
    have hidle : r.seqState = .idle := by
      by_contra hq
      exact absurd ((Regs.busy_iff r).mpr (.inr hq)) (by simp [hb])
    have hactive : r.active = false := h.item7 hidle
    exact { h with
      item1 := fun hs => absurd hs (by simp)
      item4 := fun ha => absurd ha (by simp [hactive])
      item5 := fun hq => absurd hidle hq }

end

theorem Changes.invariants {p : Config.Platform} {r r' : Regs} (hp : p.Valid) (h : r.InvariantsR41 p)
    (hc : Changes p r r') : r'.InvariantsR41 p := by
  induction hc with
  | refl => exact h
  | tail _ hc ih => exact hc.invariants ih hp

theorem Regs.InvariantsR41.startSession {p : Config.Platform} {r : Regs} (h : r.InvariantsR41 p) {a b : Word}
    (hd : r.detached = false) (hfits : a.toNat + b.toNat ≤ 2 ^ 32) (c : Word) :
    (r.startSession a b c).InvariantsR41 p :=
  { h with
    item4 := fun _ => ⟨by simp, hd⟩
    item5 := fun _ => ⟨hd, Nat.zero_le _, hfits⟩
    item6 := fun hq => absurd hq (by simp)
    item7 := fun hq => absurd hq (by simp)
    item10 := Nat.zero_le _
    item11 := ⟨fun hq => absurd hq (by simp), fun he => absurd rfl he, fun hz => absurd rfl hz⟩ }

section
variable {p : Config.Platform} {r : Regs} (h : r.InvariantsR41 p)
include h

theorem Regs.InvariantsR41.enterLoad (hq : r.seqState = .check) (he : r.pbErr = none) (hc : r.cursor ≠ r.bufLen) :
    r.enterLoad.InvariantsR41 p := by
  have hcheck : r.seqState ≠ .idle := by simp [hq]
  obtain ⟨-, hle, -⟩ := h.item5 hcheck
  have hzero : r.sleepCnt = 0 := by
    by_contra hz
    exact absurd (h.item11.2.2 hz) (by simp [hq])
  exact { h with
    item4 := fun ha => ⟨by simp, (h.item4 ha).2⟩
    item5 := fun _ => h.item5 hcheck
    item6 := fun _ => BitVec.lt_of_le_ne hle hc
    item7 := fun hq' => absurd hq' (by simp)
    item11 := ⟨fun hq' => absurd hq' (by simp), fun he' => absurd he he', fun hz => absurd hzero hz⟩ }

theorem Regs.InvariantsR41.enterSleep (hq : r.seqState = .load) : r.enterSleep.InvariantsR41 p := by
  have hload : r.seqState ≠ .idle := by simp [hq]
  have herr : r.pbErr = none := by
    by_contra he
    exact absurd (h.item11.2.1 he) (by simp [hq])
  exact { h with
    item4 := fun ha => ⟨by simp, (h.item4 ha).2⟩
    item5 := fun _ => h.item5 hload
    item6 := fun hq' => absurd hq' (by simp)
    item7 := fun hq' => absurd hq' (by simp)
    item10 := by simp
    item11 := ⟨fun hq' => absurd hq' (by simp), fun he => absurd herr he, fun _ => rfl⟩ }

theorem Regs.InvariantsR41.failLoad (hq : r.seqState = .load) (e : ErrorKind) : (r.failLoad e).InvariantsR41 p := by
  have hload : r.seqState ≠ .idle := by simp [hq]
  have hzero : r.sleepCnt = 0 := by
    by_contra hz
    exact absurd (h.item11.2.2 hz) (by simp [hq])
  exact { h with
    item4 := fun ha => ⟨by simp, (h.item4 ha).2⟩
    item5 := fun _ => h.item5 hload
    item6 := fun hq' => absurd hq' (by simp)
    item7 := fun hq' => absurd hq' (by simp)
    item11 := ⟨fun hq' => absurd hq' (by simp), fun _ => rfl, fun hz => absurd hzero hz⟩ }

theorem Regs.InvariantsR41.countTick (hq : r.seqState = .sleep) (hz : r.sleepCnt ≠ 0) :
    r.countTick.InvariantsR41 p := by
  have hle := h.item10
  exact { h with
    item10 := by simp only [Regs.countTick_sleepCnt, Regs.countTick_interval]; bv_omega
    item11 := ⟨fun hq' => absurd (hq.symm.trans hq') (by simp), h.item11.2.1, fun _ => hq⟩ }

theorem Regs.InvariantsR41.advanceCursor (hq : r.seqState = .sleep) (hz : r.sleepCnt = 0)
    (hlt : r.cursor < r.bufLen) : r.advanceCursor.InvariantsR41 p := by
  have hsleep : r.seqState ≠ .idle := by simp [hq]
  obtain ⟨hd, -, hfits⟩ := h.item5 hsleep
  exact { h with
    item4 := fun ha => ⟨by simp, hd⟩
    item5 := fun _ => ⟨hd, by simp only [Regs.advanceCursor_cursor, Regs.advanceCursor_bufLen]; bv_omega, hfits⟩
    item6 := fun hq' => absurd hq' (by simp)
    item7 := fun hq' => absurd hq' (by simp)
    item11 := ⟨fun hq' => absurd hq' (by simp), fun _ => rfl, fun hz' => absurd hz hz'⟩ }

theorem Regs.InvariantsR41.endSession (hq : r.seqState = .check) : r.endSession.InvariantsR41 p := by
  have hzero : r.sleepCnt = 0 := by
    by_contra hz
    exact absurd (h.item11.2.2 hz) (by simp [hq])
  exact { h with
    item4 := fun ha => absurd ha (by simp)
    item5 := fun hq' => absurd rfl hq'
    item6 := fun hq' => absurd hq' (by simp)
    item7 := fun _ => rfl
    item11 := ⟨fun _ => ⟨rfl, hzero⟩, fun he => absurd rfl he, fun hz => absurd hzero hz⟩ }

end

theorem Regs.reset_invariants (p : Config.Platform) : Regs.reset.InvariantsR41 p where
  item1 := fun h => absurd h (by decide)
  item2 := fun h => absurd h (by decide)
  item3 := fun _ => ⟨rfl, rfl, rfl⟩
  item4 := fun h => absurd h (by decide)
  item5 := fun h => absurd rfl h
  item6 := fun h => absurd h (by decide)
  item7 := fun _ => rfl
  item8 := fun h => absurd rfl h
  item9 := fun _ => ⟨rfl, fun _ => rfl⟩
  item10 := by decide
  item11 := ⟨fun _ => ⟨rfl, rfl⟩, fun h => absurd rfl h, fun h => absurd rfl h⟩

/-! ### The step keeps the invariant -/

/-- Settles O48: the platform is valid by its own proof, and the memory is empty. -/
theorem resetMeetsTheInvariants : Obligations.ResetMeetsTheInvariants := by
  unfold Obligations.ResetMeetsTheInvariants
  exact ⟨Config.platform.valid, Regs.reset_invariants _, fun h => absurd h (by decide), by decide⟩

/-- What of the invariant speaks of the registers. -/
def Regs.Inv (p : Config.Platform) (r : Regs) : Prop :=
  r.InvariantsR41 p ∧ (r.seqState = .sleep → r.cursor < r.bufLen)

theorem Changes.inv {p : Config.Platform} {r r' : Regs} (hp : p.Valid) (h : r.Inv p) (hc : Changes p r r') :
    r'.Inv p := by
  refine ⟨hc.invariants hp h.1, fun hq => ?_⟩
  have hsame := hc.sameSession
  rw [hsame.cursor, hsame.bufLen]
  exact h.2 (hsame.seqState.symm.trans hq)

theorem Turn.inv {s t : State} (hp : s.platform.Valid) (h : s.regs.Inv s.platform) (ht : Turn s t) :
    t.regs.Inv s.platform := by
  obtain ⟨hitems, hsleeping⟩ := h
  cases ht with
  | nothing _ hr =>
    rw [hr]
    exact ⟨hitems, hsleeping⟩
  | goesOn hq he _ hc hr =>
    rw [hr]
    exact ⟨hitems.enterLoad hq he hc, fun hq' => absurd hq' (by simp)⟩
  | exits hq r hc hr =>
    rw [hr]
    exact ⟨(hc.invariants hp hitems).endSession (hc.sameSession.seqState.trans hq), fun hq' => absurd hq' (by simp)⟩
  | plays hq r hc hr =>
    have hload := hc.sameSession.seqState.trans hq
    have hinv := hc.invariants hp hitems
    rw [hr]
    exact ⟨hinv.enterSleep hload, fun _ => hinv.item6 hload⟩
  | fails hq r e hc hr =>
    rw [hr]
    exact ⟨(hc.invariants hp hitems).failLoad (hc.sameSession.seqState.trans hq) e, fun hq' => absurd hq' (by simp)⟩
  | advances hq hz hr =>
    rw [hr]
    exact ⟨hitems.advanceCursor hq hz (hsleeping hq), fun hq' => absurd hq' (by simp)⟩

theorem StepRegs.inv {s t : State} (hp : s.platform.Valid) (h : s.regs.Inv s.platform) (ht : StepRegs s t) :
    t.regs.Inv s.platform := by
  cases ht with
  | command _ _ _ hc => exact hc.inv hp h
  | starts w k a b c _ _ hf hr =>
    obtain ⟨hd, hpre⟩ := refusal_eq_none_iff.mp hf
    have hfits : a.toNat + b.toNat ≤ 2 ^ 32 := by
      simp only [preconditionError] at hpre
      split_ifs at hpre with h1 h2
      omega
    rw [hr]
    exact ⟨h.1.startSession hd hfits c, fun hq => absurd hq (by simp)⟩
  | counts _ hq hz hr =>
    rw [hr]
    exact ⟨h.1.countTick hq hz, fun _ => h.2 hq⟩
  | ticks _ _ hr =>
    rw [hr]
    exact h
  | sequencer _ hturn => exact hturn.inv hp h
  | stores _ _ _ hr =>
    rw [hr]
    exact h
  | attaches _ hr =>
    rw [hr]
    exact ⟨Regs.reset_invariants _, fun hq => absurd hq (by decide)⟩

end Sys2Proof.Machine
end

section
/-! What a step adds to the trace, and what it leaves of the parameters and the sample memory (spec/20_memory.md R70 to
R82); with it the invariant of the whole state, and the states that are reachable from reset. -/

namespace Sys2Proof.Machine

/-! ### The events of a plan -/

/-- What the spec allows of an event that no tick is (R61, R66, R70, R101). -/
def Event.Allowed (s : State) (e : Event) : Prop := e.Conforms s ∧ e ≠ .tick

theorem Event.allowed_response (s : State) (r : Response) : (Event.response r).Allowed s :=
  ⟨Status.code_le r.status, Event.noConfusion⟩

theorem Event.allowed_memRead {s : State} (hq : s.regs.seqState = .load) :
    (Event.memRead s.regs.sampleAddr (s.mem.read s.regs.sampleAddr.toNat)).Allowed s :=
  ⟨⟨hq, rfl, rfl⟩, Event.noConfusion⟩

theorem Event.allowed_muxRead {s : State} (hm : s.regs.muxSaved = false) (v : Option Half) :
    (Event.read16 s.platform.muxOff v).Allowed s :=
  ⟨⟨rfl, hm⟩, Event.noConfusion⟩

theorem Event.allowed_muxWrite {s : State} (hm : s.regs.muxSaved = false) (v : Half) (success : Bool) :
    (Event.write16 s.platform.muxOff (muxValue s.platform.muxFn v) success).Allowed s :=
  ⟨⟨rfl, fun h => absurd (hm.symm.trans h) (by simp), fun _ => ⟨v, rfl⟩⟩, Event.noConfusion⟩

/-- A write that a transition from `s` may make: the control word's bits that no flag has are 0, and only a saved mux
value is written outside enable_mux (R31, R66, R170). -/
def Access.Conforms (s : State) : Access → Prop
  | .timer r v => r = .ctrl → v &&& 0xFFFFFF40 = 0
  | .mux v => s.regs.muxSaved = true ∧ v = s.regs.savedMux

theorem Access.Conforms.event {s : State} {a : Access} (h : a.Conforms s) (success : Bool) :
    (a.event s.platform success).Allowed s := by
  cases a with
  | timer r v => exact ⟨⟨r, rfl, h⟩, Event.noConfusion⟩
  | mux v => exact ⟨⟨rfl, fun _ => h.2, fun hm => absurd (h.1.symm.trans hm) (by simp)⟩, Event.noConfusion⟩

theorem Access.conforms_ctrl (s : State) (f : Flags) : (Access.timer .ctrl (ctrlWord f)).Conforms s :=
  fun _ => ctrlWord_and_unused f

theorem Access.conforms_reload (s : State) (v : Word) : (Access.timer .reload v).Conforms s :=
  fun h => absurd h (by simp)

theorem Access.conforms_counter (s : State) (v : Word) : (Access.timer .counter v).Conforms s :=
  fun h => absurd h (by simp)

theorem Access.conforms_match (s : State) (v : Word) : (Access.timer .matchReg v).Conforms s :=
  fun h => absurd h (by simp)

theorem forall_mem_pair {α : Type} {P : α → Prop} {x y : α} (hx : P x) (hy : P y) : ∀ z ∈ [x, y], P z :=
  List.forall_mem_cons.mpr ⟨hx, List.forall_mem_singleton.mpr hy⟩

theorem forall_mem_concat {α : Type} {P : α → Prop} {l : List α} {x : α} (hl : ∀ y ∈ l, P y) (hx : P x) :
    ∀ y ∈ l ++ [x], P y :=
  List.forall_mem_append.mpr ⟨hl, List.forall_mem_singleton.mpr hx⟩

theorem Plan.muxEvents_allowed (p : Plan) (s : State) : ∀ e ∈ p.muxEvents s, e.Allowed s := by
  unfold Plan.muxEvents Machine.muxEvents
  split
  · split
    · exact List.forall_mem_nil _
    · next hm =>
      have hm : s.regs.muxSaved = false := Bool.eq_false_of_not_eq_true hm
      split
      · exact forall_mem_pair (Event.allowed_muxRead hm _) (Event.allowed_muxWrite hm _ _)
      · exact List.forall_mem_nil _
  · exact List.forall_mem_nil _

theorem accesses_allowed {s : State} {as : List Access} (h : ∀ a ∈ as, a.Conforms s) (success : Bool) :
    ∀ e ∈ as.map (Access.event s.platform success), e.Allowed s := by
  intro e he
  obtain ⟨a, ha, rfl⟩ := List.mem_map.mp he
  exact (h a ha).event success

/-- The writes of a plan up to one that fails. -/
theorem rejected_allowed {s : State} {as before left : List Access} {a : Access} (h : ∀ a ∈ as, a.Conforms s)
    (hl : as = before ++ a :: left) :
    ∀ e ∈ before.map (Access.event s.platform true) ++ [a.event s.platform false], e.Allowed s := by
  subst hl
  exact forall_mem_concat (accesses_allowed (fun b hb => h b (by simp [hb])) true) ((h a (by simp)).event false)

theorem Plan.events_allowed {p : Plan} {s : State} (h : ∀ a ∈ p.accesses, a.Conforms s) :
    ∀ e ∈ p.events s, e.Allowed s :=
  List.forall_mem_append.mpr ⟨p.muxEvents_allowed s, accesses_allowed h true⟩

theorem Plan.Stops.events_allowed {p : Plan} {s : State} {es : List Event} {r : Regs} (hs : p.Stops s es r)
    (h : ∀ a ∈ p.accesses, a.Conforms s) : ∀ e ∈ es, e.Allowed s := by
  cases hs with
  | muxRead _ hm => exact List.forall_mem_singleton.mpr (Event.allowed_muxRead hm _)
  | muxWrite _ hm v => exact forall_mem_pair (Event.allowed_muxRead hm _) (Event.allowed_muxWrite hm _ _)
  | access before a left hl =>
    exact List.forall_mem_append.mpr ⟨p.muxEvents_allowed s, rejected_allowed h hl⟩

/-! ### The writes of each operation -/

theorem flagsPlan_conforms (s : State) (f : Flags) : ∀ a ∈ (flagsPlan f).accesses, a.Conforms s :=
  List.forall_mem_singleton.mpr (Access.conforms_ctrl s f)

theorem frequencyPlan_conforms (s u : State) (f : Int) : ∀ a ∈ (frequencyPlan u f).accesses, a.Conforms s :=
  forall_mem_pair (Access.conforms_reload s _) (Access.conforms_counter s _)

theorem dutyPlan_conforms (s u : State) (p : Int) : ∀ a ∈ (dutyPlan u p).accesses, a.Conforms s := by
  unfold dutyPlan
  split
  · exact flagsPlan_conforms s _
  · exact List.forall_mem_cons.mpr ⟨Access.conforms_ctrl s _,
      forall_mem_pair (Access.conforms_match s _) (Access.conforms_ctrl s _)⟩

theorem stopPlan_conforms (s : State) : ∀ a ∈ (stopPlan s).accesses, a.Conforms s := by
  unfold stopPlan
  split
  · exact flagsPlan_conforms s _
  · exact List.forall_mem_nil _

theorem detachPlan_conforms (s : State) : ∀ a ∈ (detachPlan s).accesses, a.Conforms s := by
  refine List.forall_mem_append.mpr ⟨?_, ?_⟩
  · unfold stopAccesses
    split
    · exact List.forall_mem_singleton.mpr (Access.conforms_ctrl s _)
    · exact List.forall_mem_nil _
  · unfold restoreAccesses
    split
    · next hm => exact List.forall_mem_singleton.mpr ⟨hm, rfl⟩
    · exact List.forall_mem_nil _

theorem planOf_conforms (s : State) (i : Instr) : ∀ a ∈ (planOf s i).accesses, a.Conforms s := by
  cases i with
  | cfgfreq a => exact frequencyPlan_conforms s s _
  | setduty a => exact dutyPlan_conforms s s _
  | on => exact forall_mem_pair (Access.conforms_match s _) (Access.conforms_ctrl s _)
  | off => exact flagsPlan_conforms s _
  | setpol a => exact flagsPlan_conforms s _
  | setpre a => exact flagsPlan_conforms s _
  | pbstop => exact stopPlan_conforms s
  | pbsync => exact stopPlan_conforms s
  | detach => exact detachPlan_conforms s
  | _ => exact List.forall_mem_nil _

/-! ### What a transition adds to the trace, and its frame -/

/-- What holds of every transition from `s` but a host write: it keeps the parameters and the memory, and the events that
it adds are allowed ones. -/
structure Adds (s t : State) (es : List Event) : Prop where
  platform : t.platform = s.platform
  mem : t.mem = s.mem
  trace : t.trace = s.trace ++ es
  allowed : ∀ e ∈ es, e.Allowed s

theorem exec_adds {i : Instr} {s t : State} (h : exec i s = .next t) : ∃ es, Adds s t es := by
  rcases exec_cases h with ⟨e, -, rfl⟩ | ⟨-, ⟨a, b, c, -, rfl⟩ | ⟨-, -, v, -, rfl⟩ | ⟨es, r, hs, rfl⟩⟩
  · exact ⟨[_], rfl, rfl, rfl, List.forall_mem_singleton.mpr (Event.allowed_response s _)⟩
  · exact ⟨[], rfl, rfl, (List.append_nil _).symm, List.forall_mem_nil _⟩
  · exact ⟨_, rfl, rfl, List.append_assoc _ _ _,
      forall_mem_concat (Plan.events_allowed (planOf_conforms s i)) (Event.allowed_response s _)⟩
  · exact ⟨_, rfl, rfl, List.append_assoc _ _ _,
      forall_mem_concat (hs.events_allowed (planOf_conforms s i)) (Event.allowed_response s _)⟩

theorem seqExit_adds (s : State) : ∃ es, Adds s (seqExit s) es := by
  rcases seqExit_cases s with ⟨-, he⟩ | ⟨es, r, hs, he⟩ <;> rw [he]
  · exact ⟨_, rfl, rfl, List.append_assoc _ _ _,
      forall_mem_concat (Plan.events_allowed (flagsPlan_conforms s _)) (Event.allowed_response s _)⟩
  · exact ⟨_, rfl, rfl, List.append_assoc _ _ _,
      forall_mem_concat (hs.events_allowed (flagsPlan_conforms s _)) (Event.allowed_response s _)⟩

/-- A plan that stops with the mux saved has made its own writes only. -/
theorem Plan.Stops.events_of_saved {p : Plan} {s : State} {es : List Event} {r : Regs} (h : p.Stops s es r)
    (hm : s.regs.muxSaved = true) : ∃ before a left, p.accesses = before ++ a :: left ∧
      es = before.map (Access.event s.platform true) ++ [a.event s.platform false] := by
  cases h with
  | muxRead _ hm' => exact absurd (hm.symm.trans hm') (by simp)
  | muxWrite _ hm' => exact absurd (hm.symm.trans hm') (by simp)
  | access before a left hl => exact ⟨before, a, left, hl, by simp [Plan.muxEvents, Machine.muxEvents, hm]⟩

/-- The read of a sample, and the accesses of one plan after the other. -/
theorem seqLoad_adds {s : State} (hq : s.regs.seqState = .load) : ∃ es, Adds s (seqLoad s) es := by
  have hread := Event.allowed_memRead hq
  have htuning : ∀ e ∈ s.tuning.events s, e.Allowed s := Plan.events_allowed (frequencyPlan_conforms s s _)
  have hplaying : ∀ a ∈ s.playing.accesses, a.Conforms s := dutyPlan_conforms s s.tuned _
  rcases seqLoad_outcome s with ⟨-, he⟩ | ⟨-, es, r, hs, he⟩ | ⟨-, ha, he | ⟨es, r, hs, he⟩ | ⟨-, he⟩⟩ <;> rw [he]
  · exact ⟨[_], rfl, rfl, rfl, List.forall_mem_singleton.mpr hread⟩
  · exact ⟨_ :: es, rfl, rfl, List.append_assoc _ [_] _,
      List.forall_mem_cons.mpr ⟨hread, hs.events_allowed (frequencyPlan_conforms s s _)⟩⟩
  · exact ⟨_ :: s.tuning.events s, rfl, rfl, List.append_assoc _ [_] _, List.forall_mem_cons.mpr ⟨hread, htuning⟩⟩
  · obtain ⟨before, a, left, hl, rfl⟩ := hs.events_of_saved (tuned_muxSaved ha)
    refine ⟨_ :: (s.tuning.events s ++ _), rfl, rfl, ?_,
      List.forall_mem_cons.mpr ⟨hread, List.forall_mem_append.mpr ⟨htuning, rejected_allowed hplaying hl⟩⟩⟩
    simp [State.tuned, State.sampleRead]
  · refine ⟨_ :: (s.tuning.events s ++ s.playing.accesses.map (Access.event s.platform true)), rfl, rfl, ?_,
      List.forall_mem_cons.mpr ⟨hread, List.forall_mem_append.mpr ⟨htuning, accesses_allowed hplaying true⟩⟩⟩
    have hevents : s.playing.events s.tuned = s.playing.accesses.map (Access.event s.platform true) := by
      rw [Plan.events, playing_muxEvents ha]
      rfl
    rw [State.commit_trace, State.issued_trace, hevents]
    simp [State.tuned, State.sampleRead]

theorem sequencer_adds (s : State) : ∃ es, Adds s (sequencer s) es := by
  rcases sequencer_cases s with ⟨-, he⟩ | ⟨-, he⟩ | ⟨hq, he⟩ | ⟨-, -, he⟩ | ⟨-, -, he⟩ <;> rw [he]
  · exact ⟨[], rfl, rfl, (List.append_nil _).symm, List.forall_mem_nil _⟩
  · rcases seqCheck_cases s with ⟨-, hc⟩ | ⟨-, -, -, hgo⟩
    · rw [hc]
      exact seqExit_adds s
    · rw [hgo]
      exact ⟨[], rfl, rfl, (List.append_nil _).symm, List.forall_mem_nil _⟩
  · exact seqLoad_adds hq
  · exact ⟨[], rfl, rfl, (List.append_nil _).symm, List.forall_mem_nil _⟩
  · exact ⟨[], rfl, rfl, (List.append_nil _).symm, List.forall_mem_nil _⟩

/-! ### The step -/

theorem Adds.of_inputTaken {s t : State} {es : List Event} (h : Adds s.inputTaken t es) : Adds s t es where
  platform := h.platform
  mem := h.mem
  trace := h.trace
  allowed := fun e he => by
    obtain ⟨hc, hn⟩ := h.allowed e he
    refine ⟨?_, hn⟩
    cases e with
    | tick => exact absurd rfl hn
    | _ => exact hc

/-- Everything a step adds to the trace, and its frame. -/
theorem step_adds {s t : State} (h : step s = .next t) :
    (∃ es, Adds s t es) ∨
    (s.nextInput = .tick ∧ t.platform = s.platform ∧ t.mem = s.mem ∧ t.trace = s.trace ++ [.tick]) ∨
    (∃ a b, s.nextInput = .hostStore a b ∧ t = s.inputTaken.setMem (s.mem.write a.toNat b)) := by
  rcases step_cases h with ⟨w, k, e, -, -, rfl⟩ | ⟨w, i, -, -, -, rfl⟩ | ⟨w, k, i, -, -, -, hexec⟩ | ⟨hin, rfl⟩ |
    ⟨hin, rfl⟩ | ⟨a, b, hin, rfl⟩ | ⟨hin, rfl⟩
  · exact .inl ⟨[_], rfl, rfl, rfl, List.forall_mem_singleton.mpr (Event.allowed_response s _)⟩
  · exact .inl ⟨[_], rfl, rfl, rfl, List.forall_mem_singleton.mpr (Event.allowed_response s _)⟩
  · obtain ⟨es, hadds⟩ := exec_adds hexec
    exact .inl ⟨es, hadds.of_inputTaken⟩
  · rcases tick_cases s.inputTaken with ⟨-, -, ht⟩ | ⟨-, ht⟩ <;> rw [ht]
    · exact .inr (.inl ⟨hin, rfl, rfl, rfl⟩)
    · exact .inr (.inl ⟨hin, rfl, rfl, rfl⟩)
  · obtain ⟨es, hadds⟩ := sequencer_adds s.inputTaken
    exact .inl ⟨es, hadds.of_inputTaken⟩
  · exact .inr (.inr ⟨a, b, hin, rfl⟩)
  · exact .inl ⟨[], rfl, rfl, (List.append_nil _).symm, List.forall_mem_nil _⟩

/-- Settles O52: every case of `step_adds` adds a list of events. -/
theorem traceOnlyGrows : Obligations.TraceOnlyGrows := by
  unfold Obligations.TraceOnlyGrows
  intro s t h
  rcases step_adds h with ⟨es, hadds⟩ | ⟨-, -, -, htrace⟩ | ⟨a, b, -, rfl⟩
  · exact ⟨es, hadds.trace⟩
  · exact ⟨_, htrace⟩
  · exact ⟨[], (List.append_nil _).symm⟩

/-- Settles O53: the events of a transition are those of its plans, a sample read, and a response. -/
theorem newEventsConform : Obligations.NewEventsConform := by
  unfold Obligations.NewEventsConform
  intro s t es h htrace e he
  rcases step_adds h with ⟨fs, hadds⟩ | ⟨hin, -, -, htick⟩ | ⟨a, b, -, rfl⟩
  · obtain rfl : es = fs := List.append_cancel_left (htrace.symm.trans hadds.trace)
    exact (hadds.allowed e he).1
  · obtain rfl : es = [.tick] := List.append_cancel_left (htrace.symm.trans htick)
    obtain rfl := List.mem_singleton.mp he
    exact hin
  · have hnil : es = [] := by simpa using htrace
    rw [hnil] at he
    cases he

/-- Settles O55: only the host's write changes the memory. -/
theorem platformAndMemoryAreNotTheBlocks : Obligations.PlatformAndMemoryAreNotTheBlocks := by
  unfold Obligations.PlatformAndMemoryAreNotTheBlocks
  intro s t h
  rcases step_adds h with ⟨es, hadds⟩ | ⟨-, hplatform, hmem, -⟩ | ⟨a, b, hin, rfl⟩
  · exact ⟨hadds.platform, fun _ => hadds.mem⟩
  · exact ⟨hplatform, fun _ => hmem⟩
  · exact ⟨rfl, fun hno => absurd hin (hno a b)⟩

/-! ### The invariant of the whole state -/

theorem step_platform {s t : State} (h : step s = .next t) : t.platform = s.platform :=
  (platformAndMemoryAreNotTheBlocks s t h).1

/-- Every step keeps the memory's canonical form. -/
theorem step_mem_wf {s t : State} (h : step s = .next t) (hwf : s.mem.wf) : t.mem.wf := by
  rcases step_adds h with ⟨es, hadds⟩ | ⟨-, -, hmem, -⟩ | ⟨a, b, -, rfl⟩
  · rw [hadds.mem]
    exact hwf
  · rw [hmem]
    exact hwf
  · exact Memory.write_wf _ _ _ hwf a.isLt

theorem State.inv_iff (s : State) : s.Inv ↔ s.platform.Valid ∧ s.regs.Inv s.platform ∧ s.mem.wf :=
  ⟨fun h => ⟨h.platform, ⟨h.items, h.sleeping⟩, h.memory⟩, fun ⟨hp, hr, hm⟩ => ⟨hp, hr.1, hr.2, hm⟩⟩

/-- Settles O49: the registers by the commit blocks, the memory by the host's write. -/
theorem stepKeepsTheInvariants : Obligations.StepKeepsTheInvariants := by
  unfold Obligations.StepKeepsTheInvariants
  intro s t hinv h
  obtain ⟨hp, hr, hm⟩ := s.inv_iff.mp hinv
  rw [State.inv_iff, step_platform h]
  exact ⟨hp, (step_regs h).inv hp hr, step_mem_wf h hm⟩

/-! ### Reachable states -/

theorem run_succ {k : Nat} {s t : State} (h : step s = .next t) :
    Sys2Proof.core.run (k + 1) s = Sys2Proof.core.run k t := by
  have hstep : Sys2Proof.core.step s = .next t := h
  simp only [Host.Core.run, hstep]

/-- What every step keeps holds after any number of steps. -/
theorem run_induction {P : State → Prop} (hstep : ∀ s t, P s → step s = .next t → P t) {k : Nat} {s t : State}
    (hs : P s) (h : Sys2Proof.core.run k s = .next t) : P t := by
  induction k generalizing s with
  | zero =>
    obtain rfl : s = t := Host.Outcome.next.inj h
    exact hs
  | succ k ih =>
    obtain ⟨u, hu⟩ := everyStepGoesOn s
    rw [run_succ hu] at h
    exact ih (hstep s u hs hu) h

/-- Settles O50: the reset registers meet the invariant under any platform, and every step keeps it. -/
theorem reachableStatesMeetR41 : Obligations.ReachableStatesMeetR41 := by
  unfold Obligations.ReachableStatesMeetR41
  intro k s t hregs hp hm hrun
  have hinv : s.Inv := by
    rw [State.inv_iff, hregs]
    exact ⟨hp, ⟨Regs.reset_invariants _, fun hq => absurd hq (by decide)⟩, hm⟩
  obtain ⟨ht, hplatform⟩ := run_induction (P := fun u => u.Inv ∧ u.platform = s.platform)
    (fun u v hu huv => ⟨stepKeepsTheInvariants u v hu.1 huv, (step_platform huv).trans hu.2⟩) ⟨hinv, rfl⟩ hrun
  rw [← hplatform]
  exact ht.items

end Sys2Proof.Machine
end

section
/-! What a step leaves of the registers (spec/10_state.md R22, R25, R34 to R36): what only attach takes back, who writes the
session's registers, the drain of a stopped session (R217), and DETACHED (R171). -/

namespace Sys2Proof.Machine

/-! ### What only attach takes back -/

/-- What stays once it is there: `configured`, `detached`, and the saved mux value (R25, R34). -/
structure Regs.Remembers (r r' : Regs) : Prop where
  configured : r.configured = true → r'.configured = true
  detached : r.detached = true → r'.detached = true
  mux : r.muxSaved = true → r'.muxSaved = true ∧ r'.savedMux = r.savedMux

/-- A commit block without these registers. -/
theorem Regs.Remembers.of_eq {r r' : Regs} (hc : r'.configured = r.configured) (hd : r'.detached = r.detached)
    (hm : r'.muxSaved = r.muxSaved) (hv : r'.savedMux = r.savedMux) : r.Remembers r' :=
  ⟨hc.trans, hd.trans, fun h => ⟨hm.trans h, hv⟩⟩

theorem Regs.Remembers.trans {a b c : Regs} (h : a.Remembers b) (h' : b.Remembers c) : a.Remembers c where
  configured := h'.configured ∘ h.configured
  detached := h'.detached ∘ h.detached
  mux := fun hm => by
    obtain ⟨hb, hv⟩ := h.mux hm
    obtain ⟨hc, hv'⟩ := h'.mux hb
    exact ⟨hc, hv'.trans hv⟩

theorem Change.remembers {p : Config.Platform} {r r' : Regs} (h : Change p r r') : r.Remembers r' := by
  cases h with
  | saveMux v hm => exact ⟨id, id, fun h => absurd (hm.symm.trans h) (by simp)⟩
  | frequency f hf hreq hm => exact ⟨fun _ => rfl, id, fun h => ⟨h, rfl⟩⟩
  | detach => exact ⟨id, fun _ => rfl, fun h => ⟨h, rfl⟩⟩
  | _ => exact .of_eq rfl rfl rfl rfl

theorem Changes.remembers {p : Config.Platform} {r r' : Regs} (h : Changes p r r') : r.Remembers r' := by
  induction h with
  | refl => exact .of_eq rfl rfl rfl rfl
  | tail _ hc ih => exact ih.trans hc.remembers

/-- The session's own commit blocks leave the controller's registers. -/
theorem Turn.remembers {s t : State} (h : Turn s t) : s.regs.Remembers t.regs := by
  cases h with
  | nothing _ hr => rw [hr]; exact .of_eq rfl rfl rfl rfl
  | goesOn _ _ _ _ hr => rw [hr]; exact .of_eq rfl rfl rfl rfl
  | exits _ r hc hr => rw [hr]; exact hc.remembers.trans (.of_eq rfl rfl rfl rfl)
  | plays _ r hc hr => rw [hr]; exact hc.remembers.trans (.of_eq rfl rfl rfl rfl)
  | fails _ r e hc hr => rw [hr]; exact hc.remembers.trans (.of_eq rfl rfl rfl rfl)
  | advances _ _ hr => rw [hr]; exact .of_eq rfl rfl rfl rfl

theorem step_remembers {s t : State} (h : step s = .next t) (hin : s.nextInput ≠ .attach) :
    s.regs.Remembers t.regs := by
  cases step_regs h with
  | command _ _ _ hc => exact hc.remembers
  | starts _ _ _ _ _ _ _ _ hr => rw [hr]; exact .of_eq rfl rfl rfl rfl
  | counts _ _ _ hr => rw [hr]; exact .of_eq rfl rfl rfl rfl
  | ticks _ _ hr => rw [hr]; exact .of_eq rfl rfl rfl rfl
  | sequencer _ hturn => exact hturn.remembers
  | stores _ _ _ hr => rw [hr]; exact .of_eq rfl rfl rfl rfl
  | attaches hin' => exact absurd hin' hin

/-- Settles O56: no commit block but reset clears them. -/
theorem onlyAttachForgets : Obligations.OnlyAttachForgets := by
  unfold Obligations.OnlyAttachForgets
  intro s t h hin
  obtain ⟨hconfigured, hdetached, hmux⟩ := step_remembers h hin
  exact ⟨hconfigured, hdetached, hmux⟩

/-! ### DETACHED -/

/-- In DETACHED there is no session (R41 items 4 and 5). -/
theorem State.Inv.idle_of_detached {s : State} (h : s.Inv) (hd : s.regs.detached = true) :
    s.regs.seqState = .idle ∧ s.regs.active = false := by
  have hidle : s.regs.seqState = .idle := by
    by_contra hq
    exact absurd (hd.symm.trans (h.items.item5 hq).1) (by simp)
  exact ⟨hidle, h.items.item7 hidle⟩

/-- Settles O29: a command is refused, no internal transition is enabled, and only reset clears `detached`. -/
theorem detachedIsTerminal : Obligations.DetachedIsTerminal := by
  unfold Obligations.DetachedIsTerminal
  refine ⟨fun i s hd => exec_refused (refusal_of_detached hd i), fun s hinv hd => hinv.idle_of_detached hd,
    fun s hinv hd hin => ?_, fun s w i _ hin hw hcfg => step_of_withdrawn hin hw hcfg,
    fun s t h hd hin => (step_remembers h hin).detached hd⟩
  exact sequencerTurnWithNothingEnabled s hin (.inl (hinv.idle_of_detached hd).1)

/-! ### The session's registers -/

/-- The cursor, the buffer and the interval are the same. -/
def Regs.SamePosition (r r' : Regs) : Prop :=
  r'.cursor = r.cursor ∧ r'.bufBase = r.bufBase ∧ r'.bufLen = r.bufLen ∧ r'.interval = r.interval

theorem Changes.samePosition {p : Config.Platform} {r r' : Regs} (h : Changes p r r') : r.SamePosition r' :=
  ⟨h.sameSession.cursor, h.sameSession.bufBase, h.sameSession.bufLen, h.sameSession.interval⟩

/-- The sequencer moves the cursor in seq_advance only. -/
theorem Turn.position {s t : State} (h : Turn s t) : s.regs.SamePosition t.regs ∨
    (s.regs.seqState = .sleep ∧ s.regs.sleepCnt = 0 ∧ t.regs = s.regs.advanceCursor) := by
  cases h with
  | nothing _ hr => rw [hr]; exact .inl ⟨rfl, rfl, rfl, rfl⟩
  | goesOn _ _ _ _ hr => rw [hr]; exact .inl ⟨rfl, rfl, rfl, rfl⟩
  | exits _ r hc hr => rw [hr]; exact .inl hc.samePosition
  | plays _ r hc hr => rw [hr]; exact .inl hc.samePosition
  | fails _ r e hc hr => rw [hr]; exact .inl hc.samePosition
  | advances hq hz hr => exact .inr ⟨hq, hz, hr⟩

/-- Settles O57: PBSTART and seq_advance are the only commit blocks with these registers in them. -/
theorem writersOfTheSessionRegisters : Obligations.WritersOfTheSessionRegisters := by
  unfold Obligations.WritersOfTheSessionRegisters
  intro s t h hin
  cases step_regs h with
  | command _ _ _ hc => exact .inl hc.samePosition
  | starts w k a b c hin' hw hf hr =>
    obtain ⟨hd, hp⟩ := refusal_eq_none_iff.mp hf
    rw [hr]
    exact .inr (.inl ⟨w, k, a, b, c, hin', hw, hd, hp, rfl, rfl, rfl, rfl⟩)
  | counts _ _ _ hr => rw [hr]; exact .inl ⟨rfl, rfl, rfl, rfl⟩
  | ticks _ _ hr => rw [hr]; exact .inl ⟨rfl, rfl, rfl, rfl⟩
  | sequencer hin' hturn =>
    rcases hturn.position with hsame | ⟨hq, hz, hr⟩
    · exact .inl hsame
    · rw [hr]
      exact .inr (.inr ⟨hin', hq, hz, rfl, rfl, rfl, rfl⟩)
  | stores _ _ _ hr => rw [hr]; exact .inl ⟨rfl, rfl, rfl, rfl⟩
  | attaches hin' => exact absurd hin' hin

/-- The sequencer leaves S_IDLE never, and returns to it by an exit. -/
theorem Turn.idle_iff {s t : State} (h : Turn s t) : (s.regs.seqState = .idle ∧ t.regs.seqState = .idle) ∨
    (s.regs.seqState ≠ .idle ∧ t.regs.seqState ≠ .idle) ∨
    (s.regs.seqState = .check ∧ t.regs.seqState = .idle ∧ t.regs.active = false ∧ t.regs.pbErr = none ∧
      ∃ es st, t.trace = s.trace ++ es ++ [.response ⟨0x10, st, s.regs.cursor⟩]) := by
  cases h with
  | nothing hq hr =>
    rw [hr]
    rcases hq with hq | ⟨hq, -⟩
    · exact .inl ⟨hq, hq⟩
    · exact .inr (.inl ⟨by simp [hq], by simp [hq]⟩)
  | goesOn hq _ _ _ hr => rw [hr]; exact .inr (.inl ⟨by simp [hq], by simp⟩)
  | exits hq r hc hr es st ht => rw [hr]; exact .inr (.inr ⟨hq, rfl, rfl, rfl, es, st, ht⟩)
  | plays hq r hc hr => rw [hr]; exact .inr (.inl ⟨by simp [hq], by simp⟩)
  | fails hq r e hc hr => rw [hr]; exact .inr (.inl ⟨by simp [hq], by simp⟩)
  | advances hq _ hr => rw [hr]; exact .inr (.inl ⟨by simp [hq], by simp⟩)

/-- Every step but an accepted PBSTART, the sequencer's turn and attach leaves `seq_state`. -/
theorem step_seqState {s t : State} (h : step s = .next t) (hin : s.nextInput ≠ .attach) :
    t.regs.seqState = s.regs.seqState ∨ (s.nextInput = .sequencer ∧ Turn s t) ∨
    (t.regs.seqState = .check ∧ t.regs.active = true ∧ t.trace = s.trace ∧
      ∃ w k a b c, s.nextInput = .command w k ∧ decode w = .ok (.pbstart a b c)) := by
  cases step_regs h with
  | command _ _ _ hc => exact .inl hc.sameSession.seqState
  | starts w k a b c hin' hw hf hr ht => rw [hr]; exact .inr (.inr ⟨rfl, rfl, ht, w, k, a, b, c, hin', hw⟩)
  | counts _ _ _ hr => rw [hr]; exact .inl rfl
  | ticks _ _ hr => rw [hr]; exact .inl rfl
  | sequencer hin' hturn => exact .inr (.inl ⟨hin', hturn⟩)
  | stores _ _ _ hr => rw [hr]; exact .inl rfl
  | attaches hin' => exact absurd hin' hin

/-- Settles O58: PBSTART's commit leaves S_IDLE, and seq_exit's commit returns to it. -/
theorem sessionsEndWithTheirResponse : Obligations.SessionsEndWithTheirResponse := by
  unfold Obligations.SessionsEndWithTheirResponse
  intro s t h hin
  rcases step_seqState h hin with hsame | ⟨hin', hturn⟩ | ⟨hcheck, hactive, htrace, hcommand⟩
  · rw [hsame]
    exact ⟨fun hidle hnot => absurd hidle hnot, fun hnot hidle => absurd hidle hnot⟩
  · rcases hturn.idle_iff with ⟨hs, ht⟩ | ⟨hs, ht⟩ | ⟨hq, ht, hactive, herr, htrace⟩
    · exact ⟨fun _ hnot => absurd ht hnot, fun hnot => absurd hs hnot⟩
    · exact ⟨fun hidle => absurd hidle hs, fun _ hidle => absurd hidle ht⟩
    · exact ⟨fun _ hnot => absurd ht hnot, fun _ _ => ⟨hactive, herr, hin', hq, htrace⟩⟩
  · exact ⟨fun _ _ => ⟨hactive, htrace, hcommand⟩, fun _ hidle => absurd (hcheck.symm.trans hidle) (by simp)⟩

/-! ### The drain of a stopped session -/

theorem Regs.SameSession.drainLeft {r r' : Regs} (h : r.SameSession r') : drainLeft r' = drainLeft r := by
  unfold Machine.drainLeft
  rw [h.seqState, h.sleepCnt, h.interval]

/-- The measure starts at most at one interval and three transitions (R41 item 10). -/
theorem drainLeft_le {s : State} (h : s.Inv) : drainLeft s.regs ≤ s.regs.interval.toNat + 3 := by
  have hle : s.regs.sleepCnt.toNat ≤ s.regs.interval.toNat := h.items.item10
  unfold drainLeft
  split <;> omega

/-- A transition of the sequencer brings the end of a stopped session nearer. -/
theorem Turn.drains {s t : State} (h : Turn s t) (hactive : s.regs.active = false) (hq : s.regs.seqState ≠ .idle) :
    t.regs.active = false ∧ (drainLeft t.regs < drainLeft s.regs ∨
      (s.regs.seqState = .sleep ∧ s.regs.sleepCnt ≠ 0 ∧ t.regs = s.regs)) := by
  cases h with
  | nothing hq' hr =>
    obtain ⟨hsleep, hz⟩ := hq'.resolve_left hq
    exact ⟨hr ▸ hactive, .inr ⟨hsleep, hz, hr⟩⟩
  | goesOn _ _ ha => exact absurd (hactive.symm.trans ha) (by simp)
  | exits hq' r hc hr => simp [hr, drainLeft, hq']
  | plays hq' r hc hr =>
    have hinterval := hc.sameSession.interval
    have hactive' := hc.active hactive
    simp [hr, drainLeft, hq', hinterval, hactive']
  | fails hq' r e hc hr =>
    have hactive' := hc.active hactive
    simp [hr, drainLeft, hq', hactive']
  | advances hq' hz hr => simp [hr, drainLeft, hq', hactive]

/-- Settles O60: PBSTART is refused while the session drains, so that only the sequencer and the tick move it. -/
theorem stoppedSessionDrains : Obligations.StoppedSessionDrains := by
  unfold Obligations.StoppedSessionDrains
  refine ⟨fun s => drainLeft_le, ?_⟩
  intro s t _ hactive hq h hin
  cases step_regs h with
  | command w k hin' hc =>
    exact ⟨hc.active hactive, hc.sameSession.drainLeft.le, fun h' => absurd (hin'.symm.trans h') (by simp),
      fun h' => absurd (hin'.symm.trans h') (by simp)⟩
  | starts w k a b c _ _ hf =>
    obtain ⟨-, hp⟩ := refusal_eq_none_iff.mp hf
    rw [preconditionError, if_pos (.inr hq)] at hp
    cases hp
  | counts hin' hsleep hz hr =>
    have hlt : (s.regs.sleepCnt - 1).toNat < s.regs.sleepCnt.toNat := by bv_omega
    have hdrain : drainLeft t.regs < drainLeft s.regs := by simpa [hr, drainLeft, hsleep] using hlt
    exact ⟨hr ▸ hactive, hdrain.le, fun _ _ => hdrain, fun _ _ _ => hdrain⟩
  | ticks hin' hn hr =>
    rw [hr]
    exact ⟨hactive, le_rfl, fun h' => absurd (hin'.symm.trans h') (by simp), fun _ hq' hz => absurd ⟨hq', hz⟩ hn⟩
  | sequencer hin' hturn =>
    obtain ⟨hactive', hdrain⟩ := hturn.drains hactive hq
    refine ⟨hactive', ?_, fun _ hn => hdrain.resolve_right fun ⟨hq', hz, _⟩ => hn ⟨hq', hz⟩,
      fun h' => absurd (hin'.symm.trans h') (by simp)⟩
    rcases hdrain with hlt | ⟨-, -, hr⟩
    · exact hlt.le
    · rw [hr]
  | stores a b hin' hr =>
    rw [hr]
    exact ⟨hactive, le_rfl, fun h' => absurd (hin'.symm.trans h') (by simp),
      fun h' => absurd (hin'.symm.trans h') (by simp)⟩
  | attaches hin' => exact absurd hin' hin

end Sys2Proof.Machine
end

section
/-! The moves of the controller state (spec/10_state.md R25): which of the three registers behind it a transition changes,
and so which move it makes. -/

namespace Sys2Proof.Machine

/-! ### The moves -/

/-- A transition that leaves the three registers behind the controller state leaves the state. -/
theorem Regs.ctlState_congr {r r' : Regs} (hd : r'.detached = r.detached) (hc : r'.configured = r.configured)
    (hs : r'.flags.started = r.flags.started) : r'.ctlState = r.ctlState := by
  unfold Regs.ctlState
  rw [hd, hc, hs]

theorem Regs.ctlState_eq_detached {r : Regs} (hd : r.detached = true) : r.ctlState = .detached := by
  simp [Regs.ctlState, hd]

theorem Regs.ctlState_eq_running {r : Regs} (hd : r.detached = false) (hc : r.configured = true)
    (hs : r.flags.started = true) : r.ctlState = .running := by
  simp [Regs.ctlState, hd, hc, hs]

theorem Regs.ctlState_eq_configuredOff {r : Regs} (hd : r.detached = false) (hc : r.configured = true)
    (hs : r.flags.started = false) : r.ctlState = .configuredOff := by
  simp [Regs.ctlState, hd, hc, hs]

/-- What the four controller states say of the registers, of a block that is attached. -/
theorem Regs.ctlState_cases {r : Regs} (hd : r.detached = false) (h1 : r.flags.started = true → r.configured = true) :
    (r.ctlState = .unconfigured ∧ r.configured = false ∧ r.flags.started = false) ∨
    (r.ctlState = .configuredOff ∧ r.configured = true ∧ r.flags.started = false) ∨
    (r.ctlState = .running ∧ r.configured = true ∧ r.flags.started = true) := by
  cases hc : r.configured with
  | false =>
    refine .inl ⟨Regs.ctlState_eq_unconfigured hd hc, rfl, Bool.eq_false_of_not_eq_true fun hs => ?_⟩
    exact absurd (hc.symm.trans (h1 hs)) (by simp)
  | true =>
    cases hs : r.flags.started with
    | false => exact .inr (.inl ⟨Regs.ctlState_eq_configuredOff hd hc hs, rfl, rfl⟩)
    | true => exact .inr (.inr ⟨Regs.ctlState_eq_running hd hc hs, rfl, rfl⟩)

section
variable {r r' : Regs} (hd : r.detached = false) (h1 : r.flags.started = true → r.configured = true)
  (hd' : r'.detached = r.detached)
include hd h1 hd'

/-- The channel turned OFF: RUNNING moves to CONFIGURED_OFF. -/
theorem Regs.ctlState_stopped (hc : r'.configured = r.configured) (hs : r'.flags.started = false) :
    r'.ctlState = if r.ctlState = .running then .configuredOff else r.ctlState := by
  rcases Regs.ctlState_cases hd h1 with ⟨h, hcr, -⟩ | ⟨h, hcr, -⟩ | ⟨h, hcr, -⟩ <;> rw [h]
  · exact Regs.ctlState_eq_unconfigured (hd'.trans hd) (hc.trans hcr)
  · exact Regs.ctlState_eq_configuredOff (hd'.trans hd) (hc.trans hcr) hs
  · exact Regs.ctlState_eq_configuredOff (hd'.trans hd) (hc.trans hcr) hs

/-- A frequency committed: UNCONFIGURED moves to CONFIGURED_OFF. -/
theorem Regs.ctlState_configured (hc : r'.configured = true) (hs : r'.flags.started = r.flags.started) :
    r'.ctlState = if r.ctlState = .unconfigured then .configuredOff else r.ctlState := by
  rcases Regs.ctlState_cases hd h1 with ⟨h, -, hsr⟩ | ⟨h, -, hsr⟩ | ⟨h, -, hsr⟩ <;> rw [h]
  · exact Regs.ctlState_eq_configuredOff (hd'.trans hd) hc (hs.trans hsr)
  · exact Regs.ctlState_eq_configuredOff (hd'.trans hd) hc (hs.trans hsr)
  · exact Regs.ctlState_eq_running (hd'.trans hd) hc (hs.trans hsr)

end

theorem Regs.ctlState_ne_detached {r : Regs} (hd : r.detached = false) : r.ctlState ≠ .detached := by
  cases hc : r.configured with
  | false => simp [Regs.ctlState_eq_unconfigured hd hc]
  | true => cases hs : r.flags.started <;> simp [Regs.ctlState, hd, hc, hs]

theorem Regs.ctlState_ne_unconfigured {r : Regs} (hd : r.detached = false) (hc : r.configured = true) :
    r.ctlState ≠ .unconfigured := by
  cases hs : r.flags.started <;> simp [Regs.ctlState, hd, hc, hs]

/-! ### Commands -/

/-- An operation that stops leaves the controller state. -/
theorem Plan.Stops.ctlState {p : Plan} {s : State} {es : List Event} {r : Regs} (h : p.Stops s es r) :
    r.ctlState = s.regs.ctlState := by
  rcases h.regs with rfl | ⟨v, -, -, rfl⟩ <;> rfl

/-- A plan that stops has an access that fails. -/
theorem Plan.Stops.not_accepts {p : Plan} {s : State} {es : List Event} {r : Regs} (h : p.Stops s es r) :
    ¬ s.accepts (p.answers s) := by
  cases h with
  | muxRead hp hm hf =>
    exact State.not_accepts (by simp [Plan.answers, Plan.muxAnswers, Machine.muxAnswers, hp, hm]) hf
  | muxWrite hp hm v hd hf =>
    exact State.not_accepts (by simp [Plan.answers, Plan.muxAnswers, Machine.muxAnswers, hp, hm]; omega) hf
  | access before a left hl ha hf => exact State.not_accepts (by simp [Plan.answers, hl]) hf

/-- The row of each command that answers OK. -/
def CommandMove (s : State) (r : Regs) : Instr → Prop
  | .cfgfreq _ => r.ctlState = if s.regs.ctlState = .running then .running else .configuredOff
  | .setduty a => if a = 0 then
      r.ctlState = (if s.regs.ctlState = .running then .configuredOff else s.regs.ctlState)
    else s.regs.ctlState ≠ .unconfigured ∧ r.ctlState = .running
  | .on => s.regs.ctlState ≠ .unconfigured ∧ r.ctlState = .running
  | .off => r.ctlState = if s.regs.ctlState = .running then .configuredOff else s.regs.ctlState
  | .setpol _ => r.ctlState = s.regs.ctlState
  | .setpre _ => r.ctlState = if s.platform.prescaleMode = .refClear ∧ s.regs.ctlState = .running
      then .configuredOff else s.regs.ctlState
  | .getduty => r.ctlState = s.regs.ctlState
  | .getfreq => r.ctlState = s.regs.ctlState
  | .pbstart _ _ _ => False
  | .pbstop => r.ctlState = if s.regs.active = true ∧ s.regs.ctlState = .running
      then .configuredOff else s.regs.ctlState
  | .pbsync => r.ctlState = if s.regs.active = true ∧ s.regs.ctlState = .running
      then .configuredOff else s.regs.ctlState
  | .pbpos => r.ctlState = s.regs.ctlState
  | .detach => r.ctlState = .detached

theorem flagsPlan_keeps_channel (s : State) {f : Flags} (hs : f.started = s.regs.flags.started) :
    ((flagsPlan f).regs s).ctlState = s.regs.ctlState :=
  Regs.ctlState_congr ((flagsPlan f).muxRegs_detached s) ((flagsPlan f).muxRegs_configured s) hs

section
variable {s : State} (hd : s.regs.detached = false) (h1 : s.regs.flags.started = true → s.regs.configured = true)
include hd h1

theorem flagsPlan_stops_channel {f : Flags} (hs : f.started = false) :
    ((flagsPlan f).regs s).ctlState = if s.regs.ctlState = .running then .configuredOff else s.regs.ctlState :=
  Regs.ctlState_stopped hd h1 ((flagsPlan f).muxRegs_detached s) ((flagsPlan f).muxRegs_configured s) hs

theorem stopPlan_move : ((stopPlan s).regs s).ctlState =
    if s.regs.active = true ∧ s.regs.ctlState = .running then .configuredOff else s.regs.ctlState := by
  unfold stopPlan
  cases ha : s.regs.active with
  | false => simp [Plan.regs, Plan.muxRegs, idlePlan]
  | true => exact (flagsPlan_stops_channel hd h1 (Flags.stop_started s.regs.flags)).trans (by simp)

end

theorem planOf_move {s : State} {i : Instr} (h1 : s.regs.flags.started = true → s.regs.configured = true)
    (hr : refusal s i = none) (hi : ¬ ∃ a b c, i = .pbstart a b c) : CommandMove s ((planOf s i).regs s) i := by
  obtain ⟨hd, hp⟩ := refusal_eq_none_iff.mp hr
  cases i with
  | cfgfreq a =>
    have hmove := Regs.ctlState_configured hd h1 ((planOf s (.cfgfreq a)).muxRegs_detached s)
      (r' := (planOf s (.cfgfreq a)).regs s) rfl (by simp [planOf, frequencyPlan, Plan.regs])
    simp only [CommandMove, hmove]
    rcases Regs.ctlState_cases hd h1 with ⟨h, -⟩ | ⟨h, -⟩ | ⟨h, -⟩ <;> simp [h]
  | setduty a =>
    simp only [CommandMove]
    split
    · next hz =>
      subst hz
      exact flagsPlan_stops_channel hd h1 (Flags.stop_started s.regs.flags)
    · next hz =>
      have hz : a.toInt ≠ 0 := fun h => hz (BitVec.eq_of_toInt_eq (h.trans rfl))
      have hc := configured_of_setduty hp hz
      have hm := computeMatch_nonzero hz s.regs.reloadValue.toNat (numCounts s.regs.reloadValue.toNat)
      refine ⟨Regs.ctlState_ne_unconfigured hd hc, ?_⟩
      rw [planOf, dutyPlan_some hm]
      exact Regs.ctlState_eq_running ((Plan.muxRegs_detached _ s).trans hd) ((Plan.muxRegs_configured _ s).trans hc) rfl
  | on =>
    have hc := configured_of_on hp
    exact ⟨Regs.ctlState_ne_unconfigured hd hc,
      Regs.ctlState_eq_running ((Plan.muxRegs_detached _ s).trans hd) ((Plan.muxRegs_configured _ s).trans hc) rfl⟩
  | off => exact flagsPlan_stops_channel hd h1 (Flags.stop_started s.regs.flags)
  | setpol a => exact flagsPlan_keeps_channel s rfl
  | setpre a =>
    simp only [CommandMove, planOf]
    cases s.platform.prescaleMode with
    | merge => exact (flagsPlan_keeps_channel s rfl).trans (by simp)
    | refClear => exact (flagsPlan_stops_channel hd h1 rfl).trans (by simp)
  | getduty => rfl
  | getfreq => rfl
  | pbstart a b c => exact absurd ⟨a, b, c, rfl⟩ hi
  | pbstop => exact stopPlan_move hd h1
  | pbsync => exact stopPlan_move hd h1
  | pbpos => rfl
  | detach => exact Regs.ctlState_eq_detached rfl

/-! ### The sequencer -/

/-- R41 item 1, as the moves need it. -/
theorem State.Inv.configured_of_started {s : State} (h : s.Inv) :
    s.regs.flags.started = true → s.regs.configured = true :=
  fun hs => (h.items.item1 hs).1

theorem seqExit_move {s : State} (hd : s.regs.detached = false)
    (h1 : s.regs.flags.started = true → s.regs.configured = true) :
    (seqExit s).regs.seqState = .idle ∧ (seqExit s).regs.ctlState =
      if s.accepts (muxAnswers s + 1) ∧ s.regs.ctlState = .running then .configuredOff else s.regs.ctlState := by
  rcases seqExit_cases s with ⟨ha, he⟩ | ⟨es, r, hs, he⟩ <;> rw [he] <;> refine ⟨rfl, ?_⟩
  · exact (flagsPlan_stops_channel hd h1 (Flags.stop_started s.regs.flags)).trans (if_congr (and_iff_right ha).symm rfl rfl)
  · rw [if_neg fun h => hs.not_accepts h.1]
    exact hs.ctlState

theorem seqCheck_move {s : State} (hd : s.regs.detached = false)
    (h1 : s.regs.flags.started = true → s.regs.configured = true) :
    (seqCheck s).regs.ctlState = if (seqCheck s).regs.seqState = .idle ∧ s.accepts (muxAnswers s + 1) ∧
      s.regs.ctlState = .running then .configuredOff else s.regs.ctlState := by
  rcases seqCheck_cases s with ⟨-, he⟩ | ⟨-, -, -, he⟩ <;> rw [he]
  · obtain ⟨hidle, hmove⟩ := seqExit_move hd h1
    simp only [hmove, hidle, true_and]
  · rw [if_neg fun h => absurd h.1 (by simp)]
    rfl

/-- The frequency's plan that completes. -/
theorem tuned_move {s : State} (hd : s.regs.detached = false)
    (h1 : s.regs.flags.started = true → s.regs.configured = true) :
    s.tuned.regs.ctlState = if s.regs.ctlState = .unconfigured then .configuredOff else s.regs.ctlState :=
  Regs.ctlState_configured hd h1 (s.tuning.muxRegs_detached s) rfl (s.tuning.muxRegs_flags s ▸ rfl)

/-- A seq_load that fails. -/
theorem seqLoad_fails_move {s : State} (hd : s.regs.detached = false)
    (h1 : s.regs.flags.started = true → s.regs.configured = true) (hq : (seqLoad s).regs.seqState ≠ .sleep) :
    (seqLoad s).regs.ctlState = if s.baseFreq ≠ 0 ∧ s.accepts (muxAnswers s + 2) ∧ s.regs.ctlState = .unconfigured
      then .configuredOff else s.regs.ctlState := by
  rcases seqLoad_outcome s with ⟨hf, he⟩ | ⟨-, es, r, hs, he⟩ | ⟨hf, ha, he | ⟨es, r, hs, he⟩ | ⟨-, he⟩⟩ <;>
    rw [he] at hq ⊢
  · rw [if_neg fun h => h.1 hf]
    rfl
  · rw [if_neg fun h => hs.not_accepts h.2.1]
    exact hs.ctlState
  · exact (tuned_move hd h1).trans (if_congr ((and_iff_right hf).trans (and_iff_right ha)).symm rfl rfl)
  · exact (hs.ctlState.trans (tuned_move hd h1)).trans (if_congr ((and_iff_right hf).trans (and_iff_right ha)).symm rfl rfl)
  · exact absurd rfl hq

/-- A seq_load that completes. -/
theorem seqLoad_plays_move {s : State} (hd : s.regs.detached = false) (hq : (seqLoad s).regs.seqState = .sleep) :
    (seqLoad s).regs.ctlState = if s.sampleDuty = 0 then .configuredOff else .running := by
  rcases seqLoad_outcome s with ⟨hf, he⟩ | ⟨-, es, r, hs, he⟩ | ⟨hf, ha, he | ⟨es, r, hs, he⟩ | ⟨-, he⟩⟩ <;>
    rw [he] at hq ⊢
  · cases hq
  · cases hq
  · cases hq
  · cases hq
  · have hd' : (s.playing.muxRegs s.tuned).detached = false :=
      (Plan.muxRegs_detached _ _).trans ((s.tuning.muxRegs_detached s).trans hd)
    have hc' : (s.playing.muxRegs s.tuned).configured = true := Plan.muxRegs_configured _ _
    split
    · next hz =>
      rw [playing_of_duty_zero hz] at hd' hc' ⊢
      exact Regs.ctlState_eq_configuredOff hd' hc' rfl
    · next hz =>
      rw [playing_of_match (computeMatch_nonzero hz _ _)] at hd' hc' ⊢
      exact Regs.ctlState_eq_running hd' hc' rfl

/-- Settles O36: every transition by the case of it that `exec_response_cases`, the sequencer's laws or `step_regs`
names. -/
theorem controllerStateMoves : Obligations.ControllerStateMoves := by
  unfold Obligations.ControllerStateMoves
  refine ⟨fun i s t es st v hinv h htrace hlast => ?_, fun s t a b c hd hp h => ?_, fun s t hinv hin h => ?_,
    fun s t h => ?_⟩
  · rcases exec_response_cases h htrace hlast with
      ⟨e, -, rfl, -, rfl⟩ | ⟨hr, hi, rfl, -, -, rfl⟩ | ⟨-, rfl, -, fs, r, hs, rfl⟩
    · exact ⟨fun _ => rfl, fun h => absurd h (by simp)⟩
    · exact ⟨fun h => absurd rfl h, fun _ => ⟨Regs.ctlState_ne_detached (refusal_eq_none_iff.mp hr).1,
        planOf_move hinv.configured_of_started hr hi⟩⟩
    · exact ⟨fun _ => hs.ctlState, fun h => absurd h (by simp)⟩
  · rw [exec_pbstart_accepted (refusal_eq_none_iff.mpr ⟨hd, hp⟩)] at h
    obtain rfl := Host.Outcome.next.inj h
    rfl
  · obtain rfl := Host.Outcome.next.inj ((step_sequencer hin).symm.trans h)
    have h1 := hinv.configured_of_started
    cases hq : s.regs.seqState with
    | idle =>
      rw [sequencer, State.inputTaken_regs, hq]
      rfl
    | check =>
      have hd := (hinv.items.item5 (by simp [hq])).1
      rw [sequencer, State.inputTaken_regs, hq]
      exact seqCheck_move (s := s.inputTaken) hd h1
    | load =>
      have hd := (hinv.items.item5 (by simp [hq])).1
      rw [sequencer, State.inputTaken_regs, hq]
      exact ⟨seqLoad_plays_move (s := s.inputTaken) hd, seqLoad_fails_move (s := s.inputTaken) hd h1⟩
    | sleep =>
      rw [sequencer, State.inputTaken_regs, hq]
      dsimp only
      split <;> rfl
  · refine ⟨fun hin => ?_, ?_⟩
    · obtain rfl := Host.Outcome.next.inj ((step_attach hin).symm.trans h)
      rfl
    · rintro (hin | ⟨a, b, hin⟩)
      · obtain rfl := Host.Outcome.next.inj ((step_tick hin).symm.trans h)
        rcases tick_cases s.inputTaken with ⟨-, -, ht⟩ | ⟨-, ht⟩ <;> rw [ht] <;> rfl
      · rw [step, hin] at h
        obtain rfl := Host.Outcome.next.inj h
        rfl

end Sys2Proof.Machine
end

section
/-! A session that is neither stopped nor failed (spec/42_playback_engine.md R215): one iteration as a run of its steps, and
the session by induction on the samples left. -/

namespace Sys2Proof.Machine

/-! ### Runs -/

/-- `k` steps from `s` to `t`, the events that they add to the trace, and that no step of them changes the memory. -/
structure Stretch (k : Nat) (s t : State) (es : List Event) : Prop where
  run : Sys2Proof.core.run k s = .next t
  trace : t.trace = s.trace ++ es
  mem : t.mem = s.mem

theorem Stretch.zero (s : State) : Stretch 0 s s [] := ⟨rfl, (List.append_nil _).symm, rfl⟩

theorem Stretch.one {s t : State} {es : List Event} (h : step s = .next t) (htrace : t.trace = s.trace ++ es)
    (hmem : t.mem = s.mem) : Stretch 1 s t es :=
  ⟨run_succ h, htrace, hmem⟩

theorem run_trans {j k : Nat} {s t u : State} (h : Sys2Proof.core.run j s = .next t)
    (h' : Sys2Proof.core.run k t = .next u) : Sys2Proof.core.run (j + k) s = .next u := by
  induction j generalizing s with
  | zero =>
    obtain rfl : s = t := Host.Outcome.next.inj h
    rwa [Nat.zero_add]
  | succ j ih =>
    obtain ⟨v, hv⟩ := everyStepGoesOn s
    rw [run_succ hv] at h
    rw [Nat.succ_add, run_succ hv]
    exact ih h

theorem Stretch.trans {j k : Nat} {s t u : State} {es fs : List Event} (h : Stretch j s t es)
    (h' : Stretch k t u fs) : Stretch (j + k) s u (es ++ fs) :=
  ⟨run_trans h.run h'.run, by rw [h'.trace, h.trace, List.append_assoc], h'.mem.trans h.mem⟩

theorem Stretch.platform {k : Nat} {s t : State} {es : List Event} (h : Stretch k s t es) :
    t.platform = s.platform :=
  run_induction (P := fun u => u.platform = s.platform) (fun _ _ hu huv => (step_platform huv).trans hu) rfl h.run

theorem Stretch.inv {k : Nat} {s t : State} {es : List Event} (h : Stretch k s t es) (hs : s.Inv) : t.Inv :=
  run_induction stepKeepsTheInvariants hs h.run

theorem nextInput_of_inputs {s : State} {i : Config.Input} {rest : List Config.Input} (h : s.inputs = i :: rest) :
    s.nextInput = i := by
  rw [State.nextInput, h, List.headD_cons]

/-! ### Sample reads -/

theorem sampleReads_append (es fs : List Event) : sampleReads (es ++ fs) = sampleReads es ++ sampleReads fs := by
  induction es with
  | nil => rfl
  | cons e es ih => cases e <;> simp [sampleReads, ih]

theorem sampleReads_accesses (p : Config.Platform) (success : Bool) (as : List Access) :
    sampleReads (as.map (Access.event p success)) = [] := by
  induction as with
  | nil => rfl
  | cons a as ih => cases a <;> simpa [Access.event, sampleReads] using ih

theorem sampleReads_muxEvents (p : Plan) (s : State) : sampleReads (p.muxEvents s) = [] := by
  unfold Plan.muxEvents Machine.muxEvents
  split
  · split
    · rfl
    · split <;> rfl
  · rfl

theorem sampleReads_events (p : Plan) (s : State) : sampleReads (p.events s) = [] := by
  rw [Plan.events, sampleReads_append, sampleReads_muxEvents, sampleReads_accesses, List.append_nil]

theorem sampleReads_ticks (n : Nat) : sampleReads (List.replicate n .tick) = [] := by
  induction n with
  | zero => rfl
  | succ n ih => exact ih

/-! ### The ticks of one sleep -/

/-- The ticks that count a sleep down to 0 (R213). -/
theorem ticks_stretch {n : Nat} {s : State} {rest : List Config.Input} (hq : s.regs.seqState = .sleep)
    (hz : s.regs.sleepCnt.toNat = n) (hin : s.inputs = List.replicate n .tick ++ rest) :
    ∃ t, Stretch n s t (List.replicate n .tick) ∧ t.inputs = rest ∧ t.regs = { s.regs with sleepCnt := 0 } ∧
      ∀ k, t.answer k = s.answer k := by
  induction n generalizing s with
  | zero =>
    have hzero : s.regs.sleepCnt = 0 := BitVec.eq_of_toNat_eq hz
    exact ⟨s, .zero s, hin, by rw [← hzero], fun _ => rfl⟩
  | succ n ih =>
    rw [List.replicate_succ, List.cons_append] at hin
    obtain ⟨c, hc, hstep⟩ := (tickCountsOnlyTheSleep s (nextInput_of_inputs hin)).1 hq (by omega)
    obtain ⟨t, hrest, hinputs, hregs, hanswer⟩ := ih (s := { s with
      inputs := s.inputs.drop 1
      inputNo := s.inputNo + 1
      regs := { s.regs with sleepCnt := c }
      trace := s.trace ++ [.tick] }) hq (hc.trans (by omega)) (by rw [hin]; rfl)
    have hall := (Stretch.one hstep rfl rfl).trans hrest
    rw [Nat.add_comm] at hall
    exact ⟨t, hall, hinputs, hregs, hanswer⟩

/-! ### One iteration -/

/-- A session at seq_check with `m` samples left, a usable BASE_CLOCK, and an environment that accepts every access. -/
structure Playing (m : Nat) (s : State) : Prop where
  inv : s.Inv
  check : s.regs.seqState = .check
  active : s.regs.active = true
  noError : s.regs.pbErr = none
  left : s.regs.cursor.toNat + m = s.regs.bufLen.toNat
  freq : s.baseFreq ≠ 0
  clock : 3 ≤ s.platform.inputFreq / s.baseFreq.toNat
  accepted : s.accepts (muxAnswers s + 5 * m + 1)

/-- A usable BASE_CLOCK leaves num_counts above 0. -/
theorem tuned_reload_ne {s : State} (hp : s.platform.Valid) (hf : s.baseFreq ≠ 0)
    (hclock : 3 ≤ s.platform.inputFreq / s.baseFreq.toNat) : s.tuned.regs.reloadValue ≠ 0xFFFFFFFE := by
  obtain ⟨-, heven, hpos, hcap, -⟩ := clampedFrequencyIsEvenAndCapped.1 s.platform s.platform.baseClock.toInt hp
  change s.baseFreq % 2 = 0 at heven
  change 0 ≤ s.baseFreq at hpos
  change s.baseFreq ≤ _ at hcap
  have hmin := hp.input_min
  have hmax := hp.input_max
  obtain ⟨-, -, -, -, -, hfits, htwo, -⟩ := reloadAndCountsRange.2.1 s.baseFreq s.platform.inputFreq
    (by omega) (by omega) (by omega) (by omega)
  have hquotient : (3 : Int) ≤ (s.platform.inputFreq : Int) / s.baseFreq := by
    rw [← Int.toNat_of_nonneg hpos]
    exact_mod_cast hclock
  intro hreload
  have hr : computeReload s.baseFreq s.platform.inputFreq = 0xFFFFFFFE := by
    rw [← hfits]
    exact congrArg zext32 hreload
  have := htwo.mp hr
  omega

theorem Plan.muxRegs_active (p : Plan) (s : State) : (p.muxRegs s).active = s.regs.active := by
  rcases p.muxRegs_cases s with h | ⟨v, -, -, h⟩ <;> rw [h]
  rfl

/-- The duty cycle leaves `active`, and makes at most three writes. -/
theorem playing_active_and_length (s : State) :
    (s.playing.commit s.tuned.regs).active = s.regs.active ∧ s.playing.accesses.length ≤ 3 := by
  have hactive : s.tuned.regs.active = s.regs.active := s.tuning.muxRegs_active s
  unfold State.playing dutyPlan
  split
  · exact ⟨hactive, by simp [flagsPlan]⟩
  · exact ⟨hactive, by simp⟩

theorem muxAnswers_of_saved {s : State} (h : s.regs.muxSaved = true) : muxAnswers s = 0 := by
  simp [muxAnswers, h]

/-- A seq_load that plays its sample, with what the session needs of it. -/
theorem load_stretch {s : State} (hin : s.nextInput = .sequencer) (hq : s.regs.seqState = .load) (hf : s.baseFreq ≠ 0)
    (hr : s.tuned.regs.reloadValue ≠ 0xFFFFFFFE) {n : Nat} (ha : s.accepts (muxAnswers s + 5 + n)) :
    ∃ t es r, Stretch 1 s t es ∧ t.inputs = s.inputs.drop 1 ∧
      sampleReads es = [(s.regs.sampleAddr, s.mem.read s.regs.sampleAddr.toNat)] ∧
      s.regs.SameSession r ∧ r.active = s.regs.active ∧ r.muxSaved = true ∧ t.regs = r.enterSleep ∧ t.accepts n := by
  obtain ⟨hactive, hlen⟩ := playing_active_and_length s
  have ha2 : s.accepts (muxAnswers s + 2) := State.accepts_mono ha (by omega)
  have hg : s.tuned.regs.Granted := .inr (by rw [(tuned_changes hf ha2).sameSession.seqState, hq]; simp)
  have hduty : Changes s.platform s.tuned.regs (s.playing.regs s.tuned) := dutyPlan_changes hg fun _ => rfl
  rw [Plan.regs, playing_muxRegs ha2] at hduty
  have hstep := step_plays hin hq hf (.inr hr)
    (State.accepts_mono ha (by change _ + s.playing.accesses.length ≤ _; omega))
  refine ⟨_, _, _, .one hstep ((List.append_assoc _ _ _).trans (List.append_assoc _ _ _)) rfl, rfl, ?_,
    (tuned_changes hf ha2).sameSession.trans hduty.sameSession, hactive,
    (hduty.remembers.mux (tuned_muxSaved ha2)).1, rfl, ?_⟩
  · rw [sampleReads_append, sampleReads_append, sampleReads_events, sampleReads_accesses]
    rfl
  · intro k hk
    have hanswer := State.answered_answer s (muxAnswers s + 2 + s.playing.accesses.length) k
    change succeeded ((s.answered (muxAnswers s + 2 + s.playing.accesses.length)).answer k) = true
    rw [hanswer]
    exact ha _ (by omega)

/-- The seq_check of a session that goes on. -/
theorem Playing.check_stretch {m : Nat} {s : State} (h : Playing (m + 1) s) (hin : s.nextInput = .sequencer) :
    Stretch 1 s (s.inputTaken.commit Regs.enterLoad) [] := by
  have hcursor : s.regs.cursor ≠ s.regs.bufLen := by
    intro heq
    have hleft := h.left
    rw [heq] at hleft
    omega
  exact .one (seqCheckGoesOn s hin h.check h.noError h.active hcursor) (List.append_nil _).symm rfl

/-- The session after a sample has been played. -/
theorem Playing.next {m : Nat} {s t : State} (h : Playing (m + 1) s) (hinv : t.Inv) (hplatform : t.platform = s.platform)
    (hq : t.regs.seqState = .check) (hactive : t.regs.active = s.regs.active) (herr : t.regs.pbErr = s.regs.pbErr)
    (hcursor : t.regs.cursor = s.regs.cursor + 1) (hlen : t.regs.bufLen = s.regs.bufLen)
    (hsaved : t.regs.muxSaved = true) (ha : t.accepts (5 * m + 1)) : Playing m t where
  inv := hinv
  check := hq
  active := hactive.trans h.active
  noError := herr.trans h.noError
  left := by
    have hleft := h.left
    have hmax := s.regs.bufLen.isLt
    rw [hcursor, hlen, BitVec.toNat_add]
    simp only [BitVec.reduceToNat]
    omega
  freq := by
    rw [State.baseFreq, hplatform]
    exact h.freq
  clock := by
    rw [State.baseFreq, hplatform]
    exact h.clock
  accepted := by
    rw [muxAnswers_of_saved hsaved, Nat.zero_add]
    exact ha

/-- One sample: seq_check, seq_load, the ticks of its interval, seq_advance (R215). -/
theorem Playing.iteration {m : Nat} {s : State} {rest : List Config.Input} (h : Playing (m + 1) s)
    (hin : s.inputs = iterationInputs s.regs.interval.toNat ++ rest) :
    ∃ t es, Stretch (s.regs.interval.toNat + 3) s t es ∧ t.inputs = rest ∧
      sampleReads es = [(s.regs.sampleAddr, s.mem.read s.regs.sampleAddr.toNat)] ∧ Playing m t ∧
      t.regs.cursor = s.regs.cursor + 1 ∧ t.regs.bufBase = s.regs.bufBase ∧ t.regs.bufLen = s.regs.bufLen ∧
      t.regs.interval = s.regs.interval := by
  simp only [iterationInputs, List.cons_append, List.nil_append, List.append_assoc] at hin
  have hcheck := h.check_stretch (nextInput_of_inputs hin)
  have huin : (s.inputTaken.commit Regs.enterLoad).inputs =
      .sequencer :: (List.replicate s.regs.interval.toNat .tick ++ .sequencer :: rest) := by
    rw [State.commit_inputs, State.inputTaken_inputs, hin]
    rfl
  have hreload : (s.inputTaken.commit Regs.enterLoad).tuned.regs.reloadValue ≠ 0xFFFFFFFE :=
    tuned_reload_ne (s := s.inputTaken.commit Regs.enterLoad) h.inv.platform h.freq h.clock
  obtain ⟨v, es, r, hload, hvin, hreads, hsame, hactive, hsaved, hvregs, hvaccepts⟩ :=
    load_stretch (nextInput_of_inputs huin) rfl h.freq hreload (n := 5 * m + 1)
      (State.accepts_mono h.accepted (by change muxAnswers s + 5 + _ ≤ _; omega))
  have hinterval : r.interval = s.regs.interval := hsame.interval
  obtain ⟨w, hticks, hwin, hwregs, hwanswer⟩ := ticks_stretch (s := v) (n := s.regs.interval.toNat)
    (rest := .sequencer :: rest) (by rw [hvregs]; rfl) (by rw [hvregs, Regs.enterSleep_sleepCnt, hinterval])
    (by rw [hvin, huin]; rfl)
  rw [hvregs] at hwregs
  have hadvance : Stretch 1 w (seqAdvance w.inputTaken) [] :=
    .one (step_advance (nextInput_of_inputs hwin) (by rw [hwregs]; rfl) (by rw [hwregs])) (List.append_nil _).symm rfl
  have hall := ((hcheck.trans hload).trans hticks).trans hadvance
  have hregs : (seqAdvance w.inputTaken).regs = ({ r.enterSleep with sleepCnt := 0 } : Regs).advanceCursor :=
    congrArg Regs.advanceCursor hwregs
  rw [show 1 + 1 + s.regs.interval.toNat + 1 = s.regs.interval.toNat + 3 by omega] at hall
  refine ⟨_, _, hall, ?_, ?_, h.next (hall.inv h.inv) hall.platform rfl ?_ ?_ ?_ ?_ ?_ ?_, ?_, ?_, ?_, ?_⟩
  · change w.inputs.drop 1 = rest
    rw [hwin]
    rfl
  · simp only [sampleReads_append, hreads, sampleReads_ticks]
    rfl
  · rw [hregs]; exact hactive
  · rw [hregs]; exact hsame.pbErr
  · rw [hregs]; exact congrArg (· + 1) hsame.cursor
  · rw [hregs]; exact hsame.bufLen
  · rw [hregs]; exact hsaved
  · intro k hk
    change succeeded (w.answer k) = true
    rw [hwanswer]
    exact hvaccepts k hk
  · rw [hregs]; exact congrArg (· + 1) hsame.cursor
  · rw [hregs]; exact hsame.bufBase
  · rw [hregs]; exact hsame.bufLen
  · rw [hregs]; exact hsame.interval

/-! ### The session -/

/-- The exit of a session whose samples have all been played (R211). -/
theorem Playing.exit {s : State} (h : Playing 0 s) (hin : s.nextInput = .sequencer) :
    ∃ t es, Stretch 1 s t (es ++ [.response ⟨0x10, .ok, s.regs.bufLen⟩]) ∧ t.inputs = s.inputs.drop 1 ∧
      sampleReads es = [] ∧ t.regs.seqState = .idle ∧ t.regs.active = false ∧ t.regs.cursor = s.regs.bufLen ∧
      t.regs.flags.started = false := by
  have hcursor : s.regs.cursor = s.regs.bufLen := BitVec.eq_of_toNat_eq h.left
  have hstep := step_exit hin h.check (.inr (.inr hcursor))
  rw [seqExit_accepts (s := s.inputTaken) h.accepted] at hstep
  refine ⟨_, (flagsPlan s.regs.flags.stop).events s, .one hstep ?_ rfl, rfl, sampleReads_events _ _, rfl, rfl, ?_, rfl⟩
  · change (s.trace ++ (flagsPlan s.regs.flags.stop).events s) ++
      [.response ⟨0x10, .ofError s.regs.pbErr, s.regs.cursor⟩] = _
    rw [h.noError, hcursor, List.append_assoc]
    rfl
  · exact ((flagsPlan s.regs.flags.stop).muxRegs_cursor s).trans hcursor

/-- The addresses and bytes of the next `m` samples of the buffer, from the cursor on. -/
def samplesFrom (s : State) (m : Nat) : List (Word × Byte) :=
  (List.range' s.regs.cursor.toNat m).map fun k =>
    (s.regs.bufBase + BitVec.ofNat 32 k, s.mem.read (s.regs.bufBase.toNat + k))

theorem samplesFrom_zero_cursor {s : State} (h : s.regs.cursor = 0) (m : Nat) :
    samplesFrom s m = (List.range m).map fun k =>
      (s.regs.bufBase + BitVec.ofNat 32 k, s.mem.read (s.regs.bufBase.toNat + k)) := by
  rw [samplesFrom, h, List.range_eq_range']
  rfl

/-- The sample at the cursor lies inside the buffer, so its address does not wrap, and neither does the cursor after it. -/
theorem Playing.sample_toNat {m : Nat} {s : State} (h : Playing (m + 1) s) :
    s.regs.sampleAddr.toNat = s.regs.bufBase.toNat + s.regs.cursor.toNat ∧
      (s.regs.cursor + 1).toNat = s.regs.cursor.toNat + 1 := by
  obtain ⟨-, -, hbuffer⟩ := h.inv.items.item5 (by rw [h.check]; simp)
  have hleft := h.left
  have hmax := s.regs.bufLen.isLt
  constructor
  · rw [Regs.sampleAddr, BitVec.toNat_add]
    omega
  · rw [BitVec.toNat_add]
    simp only [BitVec.reduceToNat]
    omega

theorem Playing.samplesFrom_succ {m : Nat} {s t : State} (h : Playing (m + 1) s) (hmem : t.mem = s.mem)
    (hcursor : t.regs.cursor = s.regs.cursor + 1) (hbase : t.regs.bufBase = s.regs.bufBase) :
    samplesFrom s (m + 1) = (s.regs.sampleAddr, s.mem.read s.regs.sampleAddr.toNat) :: samplesFrom t m := by
  obtain ⟨haddr, hnext⟩ := h.sample_toNat
  rw [samplesFrom, samplesFrom, List.range'_succ, List.map_cons, hmem, hcursor, hbase, hnext, haddr,
    BitVec.ofNat_toNat, BitVec.setWidth_eq]
  rfl

/-- The rest of a session, by induction on the samples left. -/
theorem Playing.session {m : Nat} {s : State} {rest : List Config.Input} (h : Playing m s)
    (hin : s.inputs = sessionInputs s.regs.interval.toNat m ++ rest) :
    ∃ t es, Stretch (m * (s.regs.interval.toNat + 3) + 1) s t (es ++ [.response ⟨0x10, .ok, s.regs.bufLen⟩]) ∧
      t.inputs = rest ∧ sampleReads es = samplesFrom s m ∧ t.regs.seqState = .idle ∧ t.regs.active = false ∧
      t.regs.cursor = s.regs.bufLen ∧ t.regs.flags.started = false := by
  induction m generalizing s with
  | zero =>
    rw [Nat.zero_mul, Nat.zero_add]
    obtain ⟨t, es, hrun, hinputs, hend⟩ := h.exit (nextInput_of_inputs hin)
    exact ⟨t, es, hrun, by rw [hinputs, hin]; rfl, hend⟩
  | succ m ih =>
    rw [sessionInputs, List.append_assoc] at hin
    obtain ⟨u, es, hrun, hinputs, hreads, hnext, hcursor, hbase, hlen, hinterval⟩ := h.iteration hin
    obtain ⟨t, fs, hrun', hinputs', hreads', hend⟩ := ih hnext (by rw [hinputs, hinterval])
    rw [hinterval, hlen] at hrun'
    rw [hlen] at hend
    have hall := hrun.trans hrun'
    rw [← List.append_assoc, show s.regs.interval.toNat + 3 + (m * (s.regs.interval.toNat + 3) + 1) =
      (m + 1) * (s.regs.interval.toNat + 3) + 1 by rw [Nat.succ_mul]; omega] at hall
    refine ⟨t, es ++ fs, hall, hinputs', ?_, hend⟩
    rw [sampleReads_append, hreads, hreads', h.samplesFrom_succ hrun.mem hcursor hbase]
    rfl

theorem muxAnswers_le_two (s : State) : muxAnswers s ≤ 2 := by
  unfold muxAnswers
  split <;> omega

/-- Settles O59: the session from its first sample on, each iteration one run of its steps. -/
theorem uninterruptedSessionPlaysEverySample : Obligations.UninterruptedSessionPlaysEverySample := by
  unfold Obligations.UninterruptedSessionPlaysEverySample
  intro n s rest hinv hcheck hactive herr hcursor hlen hclock hf hin ha
  have hplaying : Playing n s := {
    inv := hinv
    check := hcheck
    active := hactive
    noError := herr
    left := by
      rw [hcursor, hlen]
      exact Nat.zero_add n
    freq := hf
    clock := hclock
    accepted := State.accepts_mono ha (by have := muxAnswers_le_two s; omega) }
  obtain ⟨t, es, hrun, hinputs, hreads, hend⟩ := hplaying.session hin
  exact ⟨t, es, hrun.run, hinputs, by rw [hrun.trace, List.append_assoc],
    hreads.trans (samplesFrom_zero_cursor hcursor n), hend⟩

end Sys2Proof.Machine
end
